-- ==== Sys2Proof/Word.lean ====
section
/-! DEFINITION. The word and string types of the block: command and port words (R301, R104, R114), durations (R17, R112),
frame strings and byte strings (R13). -/

namespace Sys2Proof

/-- A 16-bit command word (R301) or port word (R104, R114). -/
abbrev Word := BitVec 16

/-- A duration in microseconds, an unsigned 16-bit number (R8, R17, R112, R113). -/
abbrev Dur := BitVec 16

/-- A frame string: a finite sequence of characters over '0' and '1', character 0 first (R13); `true` is '1'. -/
abbrev BitStr := List Bool

/-- A byte string: a string of 8 characters (R13). -/
abbrev ByteStr := Vector Bool 8

/-- The preamble frame frame1: 70 characters (R9, R12). -/
abbrev Frame1 := Vector Bool 70

/-- A frame2 string: 152 characters, 19 byte strings (R12, R111). -/
abbrev Frame2 := Vector Bool 152

/-- A pulse train: exactly 451 durations, even index mark, odd index space (R112). -/
abbrev PulseTrain := Vector Dur 451

end Sys2Proof
end

