-- ==== Sys2Proof/Syntax.lean ====
section
/-! DEFINITION. The ten commands of the block (R302). -/

namespace Sys2Proof

/-- One constructor per row of the opcode table (R302). The operands are the unsigned bit fields of R303, as they stand;
whether a value is in its domain (R304) is decided when the setter executes (R306, R307). -/
inductive Instr where
  | setpwr (v : BitVec 1)
  | setmode (m : BitVec 2)
  | settemp (t : BitVec 5)
  | setfan (f : BitVec 3)
  | setdir (d : BitVec 3)
  | encode
  | convert
  | synth
  | transmit
  | send
deriving DecidableEq, Repr

end Sys2Proof
end

