-- ==== Sys2Proof/Decode.lean ====
section
/-! DEFINITION. The decoder of R307, total on every 16-bit word, and after it the encoder written from the table of
R302. -/

namespace Sys2Proof

/-- Why a word spells no command (R305). -/
inductive Illegal where
  /-- the opcode is 0x0, 0x6, 0x7, 0xD, 0xE or 0xF -/
  | reservedOpcode
  /-- the opcode is listed, and a bit marked 0 is set -/
  | mustBeZero
deriving DecidableEq, Repr

/-- What a word decodes to (R307: Command | Illegal). -/
inductive Decoded where
  | command (i : Instr)
  | illegal (why : Illegal)
deriving DecidableEq, Repr

/-- The opcode field `w[15:12]` (R301). -/
def opcodeOf (w : Word) : BitVec 4 := w.extractLsb' 12 4

/-- A command whose must-be-zero bits read `zeros` (R305). -/
def whenZero {n : Nat} (zeros : BitVec n) (i : Instr) : Decoded :=
  if zeros = 0 then .command i else .illegal .mustBeZero

/-- The decoder (R307). It does not depend on the variant or the state. -/
def decode (w : Word) : Decoded :=
  match (opcodeOf w).toNat with
  | 0x1 => whenZero (w.extractLsb' 1 11) (.setpwr (w.extractLsb' 0 1))
  | 0x2 => whenZero (w.extractLsb' 2 10) (.setmode (w.extractLsb' 0 2))
  | 0x3 => whenZero (w.extractLsb' 5 7) (.settemp (w.extractLsb' 0 5))
  | 0x4 => whenZero (w.extractLsb' 3 9) (.setfan (w.extractLsb' 0 3))
  | 0x5 => whenZero (w.extractLsb' 3 9) (.setdir (w.extractLsb' 0 3))
  | 0x8 => whenZero (w.extractLsb' 0 12) .encode
  | 0x9 => whenZero (w.extractLsb' 0 12) .convert
  | 0xA => whenZero (w.extractLsb' 0 12) .synth
  | 0xB => whenZero (w.extractLsb' 0 12) .transmit
  | 0xC => whenZero (w.extractLsb' 0 12) .send
  | _ => .illegal .reservedOpcode

/-- The word of a command: opcode, zeros, operand (R302). -/
def encode : Instr → Word
  | .setpwr v => 0x1#4 ++ 0#11 ++ v
  | .setmode m => 0x2#4 ++ 0#10 ++ m
  | .settemp t => 0x3#4 ++ 0#7 ++ t
  | .setfan f => 0x4#4 ++ 0#9 ++ f
  | .setdir d => 0x5#4 ++ 0#9 ++ d
  | .encode => 0x8#4 ++ 0#12
  | .convert => 0x9#4 ++ 0#12
  | .synth => 0xA#4 ++ 0#12
  | .transmit => 0xB#4 ++ 0#12
  | .send => 0xC#4 ++ 0#12

/-- The instruction the decoder reads from a table word of `nbits` bits (at most the 16 bits of R301), the bits above
`nbits` being 0 (log 25). -/
def decodeTableWord (nbits w : Nat) : Option Instr :=
  if nbits ≤ 16 then
    match decode (BitVec.ofNat 16 (w % 2 ^ nbits)) with
    | .command i => some i
    | .illegal _ => none
  else none

end Sys2Proof
end

