-- ==== Sys2Proof/Config.lean ====
section
/-! DEFINITION. What is fixed when a block is built (R7), the carrier constants' two inputs (R551, R552), and the free
values: the parameters of the block that `State.reset` describes, and the waveform engine's draws (R725 to R727). -/

namespace Sys2Proof

/-- The device profile (R3, R10). -/
inductive Variant where
  | A
  | B
deriving DecidableEq, Repr, Inhabited

/-- The identifier of a digital output line: opaque to the block, which only hands it on (R7, R602). -/
structure OutputLine where
  id : Nat
deriving DecidableEq, Repr, Inhabited

/-- The six timing constants, unsigned 16-bit numbers of microseconds (R8). -/
structure Timing where
  headerOn : Dur
  headerOff : Dur
  bitOn : Dur
  bit0Off : Dur
  bit1Off : Dur
  separatorOff : Dur
deriving DecidableEq, Repr, Inhabited

/-- The default timing constants (R8). -/
def Timing.default : Timing where
  headerOn := 3500
  headerOff := 1730
  bitOn := 460
  bit0Off := 430
  bit1Off := 1300
  separatorOff := 9990

/-- The parameters of one block (R7): fixed when it is built, changed by nothing (R802). -/
structure Params where
  variant : Variant
  frame1 : Frame1
  timing : Timing
  outputLine : OutputLine
  segCap : Nat
deriving DecidableEq, Repr, Inhabited

/-- The engine's answer to a request (R725). -/
inductive Answer where
  | accept
  | refuse
deriving DecidableEq, Repr, Inhabited

/-- The engine's completion report (R727). `ok` comes after the whole waveform; `fail us`: the emission broke off after `us`
more microseconds of it (R608 admits every prefix). -/
inductive Completion where
  | ok
  | fail (us : Nat)
deriving DecidableEq, Repr, Inhabited

/-- A move of the engine while a request is in flight (log 9, 11): it drives the line on with `us` more microseconds of the
waveform (R726; with none more, it waits) and does not report yet, or it ends the emission and reports (R605, R727). -/
inductive EngineMove where
  | emit (us : Nat)
  | report (c : Completion)
deriving DecidableEq, Repr, Inhabited

/-- CARRIER_FREQ, in Hz, fixed (R7, R551). -/
def Config.carrierFreq : Nat := 38000

/-- CARRIER_DUTY as the exact rational 33/100 (R7, R552): its numerator. -/
def Config.dutyNum : Nat := 33

/-- CARRIER_DUTY as the exact rational 33/100 (R7, R552): its denominator. -/
def Config.dutyDen : Nat := 100

/-- DESIGN CHOICE (log 2): the parameters of the block `State.reset` describes. R7 fixes none of them for every block. -/
opaque Config.params : Params

/-- DESIGN CHOICE (log 8): draw `n` of the engine's answers, a free value (R725, I7). -/
opaque Config.engineAnswer : Nat → Answer

/-- DESIGN CHOICE (log 8): draw `n` of the engine's moves while a request is in flight, a free value: no report yet, or a
completion (R605, R726, R727, I8, I9, I10). -/
opaque Config.engineMove : Nat → EngineMove

end Sys2Proof
end

