-- ==== Sys2Proof/Machine/State.lean ====
section
/-! DEFINITION. The state of one block (R101), of the engine beside it and of the host's coming moves (R102), as plain
data; the reasons a step or a port read stops; the state after reset (R124, R801). -/

namespace Sys2Proof.Machine

/-- ST.MODE (R103, R104): the code 3 is never held, so it has no constructor. -/
inductive Mode where
  | cool
  | dry
  | heat
deriving DecidableEq, Repr

/-- ST.TEMP: degrees Celsius, a 5-bit unsigned integer from 16 to 30 (R104, R107); 0 to 15 and 31 are never held (R108). -/
structure Temp where
  deg : BitVec 5
  inRange : 16 ≤ deg.toNat ∧ deg.toNat ≤ 30
deriving DecidableEq, Repr

/-- ST.FAN: a code from 0 to 5 (R104). The code's name depends on the variant (R105); 6 and 7 are never held. -/
abbrev Fan := Fin 6

/-- ST.DIR, the same six values in both variants (R104, R106); 6 and 7 are never held. -/
inductive Dir where
  | auto
  | p1
  | p2
  | p3
  | p4
  | p5
deriving DecidableEq, Repr

/-- The state register ST, exactly five fields (R103). -/
structure ST where
  power : Bool
  mode : Mode
  temp : Temp
  fan : Fan
  dir : Dir
deriving DecidableEq, Repr

/-- ST after reset (R124, R801): off, COOL, 25, AUTO, AUTO. -/
def ST.reset : ST where
  power := false
  mode := .cool
  temp := ⟨25, by decide⟩
  fan := 0
  dir := .auto

/-- One timed interval of SEG: level 1 (`true`) is LED driven, level 0 idle (R113). -/
structure Segment where
  level : Bool
  dur : Dur
deriving DecidableEq, Repr

/-- STATUS.TXRES (R114, R116); the code 3 is never produced. -/
inductive TxRes where
  | none
  | ok
  | fail
deriving DecidableEq, Repr

/-- STATUS.ERR (R702); the codes 6 to 15 are never produced. -/
inductive ErrCode where
  | none
  | domainViolation
  | frameLength
  | illegalCommand
  | notReady
  | capacity
deriving DecidableEq, Repr

/-- The stored fields of STATUS (R114). The three valid bits are whether FRAME2, PT and SEG hold a value (log 5). -/
structure Status where
  busy : Bool
  txres : TxRes
  fault : Bool
  err : ErrCode
deriving DecidableEq, Repr

/-- STATUS after reset (R124, R801). -/
def Status.reset : Status where
  busy := false
  txres := .none
  fault := false
  err := .none

/-- What a request hands to the engine (R602, R725); while it is in flight, the engine-side handles (R121). -/
structure Request where
  line : OutputLine
  segs : List Segment
deriving DecidableEq, Repr

/-- What an accepted request has made the output line show so far: on `line`, the first `shown` microseconds of the waveform
of `segs`, then low (R608, R726). -/
structure Emission where
  line : OutputLine
  segs : List Segment
  shown : Nat
deriving DecidableEq, Repr

/-- The engine side: the handles (R121) and the model's own fields (log 8, 11). `answer` is what the engine answers to the
coming request and `move` what it does at its coming move while a request is in flight; each is a draw, renewed from `Config`
when it is used, and `draws` counts them. `emission` is what the line has shown so far for the last request, from the engine's
acceptance on; none where the request was refused and before the first one. -/
structure Engine where
  handles : Option Request
  emission : Option Emission
  answer : Answer
  move : EngineMove
  draws : Nat
deriving DecidableEq, Repr

/-- A move of the host that changes the block (R719): it delivers a command word, or asserts reset. -/
inductive HostMove where
  | word (w : Word)
  | reset
deriving DecidableEq, Repr

/-- The whole machine: the parameters of the block (R7; no step writes them, log 1), the block's state (R101), the engine,
and the host's coming moves, the next one first (log 7). A buffer is `none` when its valid bit is 0: it then holds no value
(R123, log 5). -/
structure State where
  params : Params
  st : ST
  frame2 : Option Frame2
  pt : Option PulseTrain
  seg : Option (List Segment)
  status : Status
  engine : Engine
  host : List HostMove
deriving DecidableEq, Repr

/-- The ports the host reads (R201). -/
inductive Port where
  | st
  | status
  | frame2
  | pt
  | seg
deriving DecidableEq, Repr

/-- Why something stops with a fault of the model. No step does: every fault of the spec is recorded in STATUS and is a
next state (R701, R705). -/
inductive Fault where
  /-- Raised by a host read of the FRAME2, PT or SEG port while its valid bit is 0, which returns no defined value (R123,
  I22). Safe: it gives the claim no value. -/
  | invalidBuffer (p : Port)
deriving DecidableEq, Repr

/-- Why the machine has no step. -/
inductive Refusal where
  /-- A command without a meaning in the model; no command is refused so. Safe. -/
  | notModelled (mnemonic : String)
  /-- Raised by `step` when BUSY = 0 and the host has no move: the block takes no step of its own (R718, log 7). Safe. -/
  | noHostMove
deriving DecidableEq, Repr

/-- A newly built block with parameters `p`, after reset (R124, R801), before the host has any move. The engine's draws are
free values (log 8). -/
def State.built (p : Params) : State where
  params := p
  st := ST.reset
  frame2 := none
  pt := none
  seg := none
  status := Status.reset
  engine :=
    { handles := none
      emission := none
      answer := Config.engineAnswer 0
      move := Config.engineMove 0
      draws := 1 }
  host := []

/-- The machine right after reset (R124, R801), for the free parameters of `Config` (log 2). -/
def State.reset : State := State.built Config.params

/-- The three outcomes of a step of this machine. -/
abbrev Result := Host.Outcome State Fault Refusal

end Sys2Proof.Machine
end

