-- ==== Sys2Proof/Machine/Operands.lean ====
section
/-! DEFINITION. The operand forms: the codes of the five ST fields (R104, R304), from a command's operand field to the
field's value and back. -/

namespace Sys2Proof.Machine

/-- V: 0 off, 1 on (R304). -/
def powerOfCode (v : BitVec 1) : Bool := v = 1

/-- M: 0 COOL, 1 DRY, 2 HEAT; 3 is out of domain (R304, R306). -/
def Mode.ofCode? (m : BitVec 2) : Option Mode :=
  match m.toNat with
  | 0 => some .cool
  | 1 => some .dry
  | 2 => some .heat
  | _ => none

/-- T: 16 to 30, taken as it stands; 0 to 15 and 31 are out of domain (R304, R306). -/
def Temp.ofCode? (t : BitVec 5) : Option Temp :=
  if h : 16 ≤ t.toNat ∧ t.toNat ≤ 30 then some ⟨t, h⟩ else none

/-- F: 0 to 5 in both variants; 6 and 7 are out of domain (R304, R306). -/
def Fan.ofCode? (f : BitVec 3) : Option Fan :=
  if h : f.toNat < 6 then some ⟨f.toNat, h⟩ else none

/-- D: 0 AUTO, 1 to 5 P1 to P5; 6 and 7 are out of domain (R304, R306). -/
def Dir.ofCode? (d : BitVec 3) : Option Dir :=
  match d.toNat with
  | 0 => some .auto
  | 1 => some .p1
  | 2 => some .p2
  | 3 => some .p3
  | 4 => some .p4
  | 5 => some .p5
  | _ => none

/-- The code of ST.MODE (R104). -/
def Mode.code : Mode → BitVec 2
  | .cool => 0
  | .dry => 1
  | .heat => 2

/-- The code of ST.FAN (R104). -/
def Fan.code (f : Fan) : BitVec 3 := BitVec.ofNat 3 f.val

/-- The code of ST.DIR (R104). -/
def Dir.code : Dir → BitVec 3
  | .auto => 0
  | .p1 => 1
  | .p2 => 2
  | .p3 => 3
  | .p4 => 4
  | .p5 => 5

/-- The name a fan code has in one variant or the other (R105). -/
inductive FanName where
  | auto
  | f1
  | f2
  | f3
  | f4
  | f5
  | silent
  | level1
  | level2
  | level3
  | level4
deriving DecidableEq, Repr

/-- Variant A: AUTO, F1..F5; variant B: AUTO, SILENT, LEVEL1..LEVEL4 (R105, R304). -/
def fanName : Variant → Fan → FanName
  | .A, 0 => .auto
  | .A, 1 => .f1
  | .A, 2 => .f2
  | .A, 3 => .f3
  | .A, 4 => .f4
  | .A, 5 => .f5
  | .B, 0 => .auto
  | .B, 1 => .silent
  | .B, 2 => .level1
  | .B, 3 => .level2
  | .B, 4 => .level3
  | .B, 5 => .level4

/-- The fan code a name stands for, where the variant has that name (R105). -/
def fanOfName (v : Variant) (n : FanName) : Option Fan := (List.finRange 6).find? fun f => fanName v f = n

end Sys2Proof.Machine
end

