-- ==== Sys2Proof/Machine/Flags.lean ====
section
/-! DEFINITION. The status bits and the two port words: the valid bits (R111 to R113), the STATUS word (R114) and the ST
word (R104). -/

namespace Sys2Proof.Machine

/-- FRAME2_VALID (R111). -/
def State.frame2Valid (s : State) : Bool := s.frame2.isSome

/-- PT_VALID (R112). -/
def State.ptValid (s : State) : Bool := s.pt.isSome

/-- SEG_VALID (R113). -/
def State.segValid (s : State) : Bool := s.seg.isSome

/-- The code of TXRES (R114). -/
def TxRes.code : TxRes → BitVec 2
  | .none => 0
  | .ok => 1
  | .fail => 2

/-- The code of ERR (R702). -/
def ErrCode.code : ErrCode → BitVec 4
  | .none => 0
  | .domainViolation => 1
  | .frameLength => 2
  | .illegalCommand => 3
  | .notReady => 4
  | .capacity => 5

/-- The STATUS word (R114): bits 15:12 zero, ERR 11:8, bit 7 zero, FAULT 6, TXRES 5:4, SEG_VALID 3, PT_VALID 2,
FRAME2_VALID 1, BUSY 0. -/
def State.statusWord (s : State) : Word :=
  0#4 ++ s.status.err.code ++ 0#1 ++ BitVec.ofBool s.status.fault ++ s.status.txres.code ++ BitVec.ofBool s.segValid ++
    BitVec.ofBool s.ptValid ++ BitVec.ofBool s.frame2Valid ++ BitVec.ofBool s.status.busy

/-- The ST word (R104): bits 15:14 zero, DIR 13:11, FAN 10:8, TEMP 7:3, MODE 2:1, POWER 0. -/
def ST.word (st : ST) : Word :=
  0#2 ++ st.dir.code ++ Fan.code st.fan ++ st.temp.deg ++ st.mode.code ++ BitVec.ofBool st.power

end Sys2Proof.Machine
end

