-- ==== Sys2Proof/Machine/Waveform.lean ====
section
/-! DEFINITION. What the output line shows: segment start times (R558), the line level of a segment list (R559, R560), and
of an emission that is under way or was cut short (R608, R726). -/

namespace Sys2Proof.Machine

/-- The time the whole list takes, in µs (R558). -/
def totalTime (l : List Segment) : Nat := (l.map fun g => g.dur.toNat).sum

/-- `T(i)`: the start time of segment `i` (R558). -/
def segStart (l : List Segment) (i : Nat) : Nat := totalTime (l.take i)

/-- The time at level 1, in µs (R564). -/
def highTime (l : List Segment) : Nat := totalTime (l.filter fun g => g.level)

/-- The line level `t` µs after the start of an emission of `l` (R560): the level of the segment `t` falls in, low after the
last one. A segment of duration 0 is never fallen into. -/
def lineLevel : List Segment → Nat → Bool
  | [], _ => false
  | g :: l, t => if t < g.dur.toNat then g.level else lineLevel l (t - g.dur.toNat)

/-- How many µs of the waveform of `l` the line has shown after a move of the engine, when it had shown `shown` before it: so
many more (R726), all of them when it reports OK (R608), never more than there are. -/
def moveReach (m : EngineMove) (shown : Nat) (l : List Segment) : Nat :=
  match m with
  | .emit us => min (shown + us) (totalTime l)
  | .report .ok => totalTime l
  | .report (.fail us) => min (shown + us) (totalTime l)

/-- The line level `t` µs after the start of an emission that showed its first `shown` µs (R608). -/
def Emission.level (e : Emission) (t : Nat) : Bool := if t < e.shown then lineLevel e.segs t else false

/-- How many µs the line has shown for the last request so far. -/
def Engine.shown (g : Engine) : Nat :=
  match g.emission with
  | none => 0
  | some e => e.shown

/-- The engine reads the segments its handles reference and drives the line with them, as far as its move `m` goes (R726). -/
def Engine.drive (m : EngineMove) (g : Engine) : Engine :=
  { g with emission := g.handles.map fun h => ⟨h.line, h.segs, moveReach m g.shown h.segs⟩ }

/-- What the line has shown for the last request so far, `t` µs after its start; low where nothing was emitted (R559, R608,
R726). -/
def State.shownLevel (s : State) (t : Nat) : Bool :=
  match s.engine.emission with
  | none => false
  | some e => e.level t

end Sys2Proof.Machine
end

