-- ==== Sys2Proof/Machine/Ops.lean ====
section
/-! DEFINITION. The named operations on the state: taking a fault (R705) and leaving the faulted state (R801), the writes of
the registers and buffers, the engine's request, emission and completion (R601 to R608, R726), the host's ports, and how a command
ends. -/

namespace Sys2Proof.Machine

/-- Fault entry (R705): the first fault is recorded and nothing else is written; a later one writes nothing. -/
def State.raise (e : ErrCode) (s : State) : State :=
  if s.status.fault then s else { s with status := { s.status with err := e, fault := true } }

/-- Reset, the only way out of the faulted state (R711, R801, R124): ST and STATUS to their reset values, the buffers
without a value, no handles. Parameters (R802), the host's moves and the engine's own draws and record stay. -/
def State.assertReset (s : State) : State :=
  { s with
    st := ST.reset
    frame2 := none
    pt := none
    seg := none
    status := Status.reset
    engine := { s.engine with handles := none } }

/-- A setter's write of ST (R402 to R406). -/
def State.setSt (st : ST) (s : State) : State := { s with st := st }

/-- ENCODE's write: FRAME2 holds `f`, PT and SEG no longer hold a value (R451, R469). -/
def State.putFrame2 (f : Frame2) (s : State) : State := { s with frame2 := some f, pt := none, seg := none }

/-- CONVERT's write: PT holds `p`, SEG no longer holds a value (R501, R511). -/
def State.putPt (p : PulseTrain) (s : State) : State := { s with pt := some p, seg := none }

/-- SYNTH's write (R557). -/
def State.putSeg (l : List Segment) (s : State) : State := { s with seg := some l }

/-- The engine's answer is used up and its next draw made (R725, log 8). -/
def Engine.drawAnswer (g : Engine) : Engine :=
  { g with answer := Config.engineAnswer g.draws, draws := g.draws + 1 }

/-- The engine's move is used up and its next draw made (R727, log 8). -/
def Engine.drawMove (g : Engine) : Engine :=
  { g with move := Config.engineMove g.draws, draws := g.draws + 1 }

/-- The engine accepts the request for `l` on the output line: it holds the handles, BUSY = 1, TXRES = NONE (R601, R604,
R725), and its emission of `l` on that line begins, with nothing shown yet (R726, log 11). -/
def State.acceptRequest (l : List Segment) (s : State) : State :=
  { s with
    status := { s.status with busy := true, txres := .none }
    engine := { s.engine.drawAnswer with handles := some ⟨s.params.outputLine, l⟩, emission := some ⟨s.params.outputLine, l, 0⟩ } }

/-- The engine refuses the request: TXRES = FAIL, nothing is emitted (R601, R603). -/
def State.refuseRequest (s : State) : State :=
  { s with
    status := { s.status with txres := .fail }
    engine := { s.engine.drawAnswer with emission := none } }

/-- The TXRES of a completion (R605). -/
def completionTxres : Completion → TxRes
  | .ok => .ok
  | .fail _ => .fail

/-- The engine ends the emission and reports completion: the line has shown the waveform or a prefix of it (R608), the
handles are released, BUSY = 0, TXRES = the result (R605, R606). -/
def State.complete (c : Completion) (s : State) : State :=
  { s with
    status := { s.status with busy := false, txres := completionTxres c }
    engine := { (s.engine.drive (.report c)).drawMove with handles := none } }

/-- The engine drives the line on with `us` more µs (R726) and has not reported yet: the block stays busy (R605, R727, I10). -/
def State.emit (us : Nat) (s : State) : State := { s with engine := (s.engine.drive (.emit us)).drawMove }

/-- The engine's move while BUSY = 1 (R605, R726, R727). -/
def State.engineMove (s : State) : State :=
  match s.engine.move with
  | .emit us => s.emit us
  | .report c => s.complete c

/-- How a command ended: it did all it had to, or it raised a fault, in which case a longer command stops (R610). -/
inductive Performed where
  | done (s : State)
  | faulted (s : State)
deriving DecidableEq, Repr

/-- The state a command left. -/
def Performed.state : Performed → State
  | .done s => s
  | .faulted s => s

/-- The next step of a longer command, which runs only if the steps before it raised no fault (R610). -/
def Performed.andThen (p : Performed) (f : State → Performed) : Performed :=
  match p with
  | .done s => f s
  | .faulted s => .faulted s

/-- The outcome of a command: a fault is a next state too (R705, R711). -/
def Performed.outcome (p : Performed) : Result := .next p.state

/-- The body of a setter (R402 to R406): an out-of-domain operand raises DOMAIN_VIOLATION, any other is written. -/
def setField {α : Type} (value? : Option α) (upd : α → ST) (s : State) : Performed :=
  match value? with
  | none => .faulted (s.raise .domainViolation)
  | some x => .done (s.setSt (upd x))

/-- What a step is about: which agent moves, and for the host what its move is and the state with that move taken from the
list (R401, R718; log 7, 9). -/
inductive Move where
  | engine
  | word (w : Word) (s : State)
  | reset (s : State)
  | nobody
deriving DecidableEq, Repr

/-- Whose move it is: the engine's while BUSY = 1 (the host holds its word, R807, and has no reset, R803), else the host's
next move. -/
def State.nextMove (s : State) : Move :=
  match s.status.busy, s.host with
  | true, _ => .engine
  | false, .word w :: rest => .word w { s with host := rest }
  | false, .reset :: rest => .reset { s with host := rest }
  | false, [] => .nobody

/-- The host delivers one more command word, before any other of its moves (log 26). -/
def State.deliver (w : Word) (s : State) : State := { s with host := .word w :: s.host }

/-- What a read port returns (R201, R211). -/
inductive PortValue where
  | word (w : Word)
  | frame (f : Frame2)
  | train (p : PulseTrain)
  | segments (l : List Segment)
deriving DecidableEq, Repr

/-- A buffer's port: its value, or the fault of a read that returns no defined value (R123, I22). -/
def bufferPort {α : Type} (p : Port) (wrap : α → PortValue) (b : Option α) : Except Fault PortValue :=
  match b with
  | none => .error (.invalidBuffer p)
  | some x => .ok (wrap x)

/-- A host read of a port: the whole register or buffer as it stands (R211); it has no side effect (R212). DESIGN CHOICE (log
29): as it stands, also while a SEND is in flight (BUSY = 1), whose ENCODE, CONVERT and SYNTH writes then already show. R719
gives a read the state after the last completed command, and R120 and R610 do not say which writes of a SEND in flight a read
shows. -/
def State.readPort (s : State) : Port → Except Fault PortValue
  | .st => .ok (.word s.st.word)
  | .status => .ok (.word s.statusWord)
  | .frame2 => bufferPort .frame2 .frame s.frame2
  | .pt => bufferPort .pt .train s.pt
  | .seg => bufferPort .seg .segments s.seg

end Sys2Proof.Machine
end

