-- ==== Sys2Proof/Machine/Setters.lean ====
section
/-! DEFINITION. The five setters (R402 to R406). No setter writes anything but its own field of ST, or STATUS on a fault
(R407). -/

namespace Sys2Proof.Machine

/-- SETPWR V (R402): every value is in domain. -/
def execSetPwr (v : BitVec 1) (s : State) : Result :=
  (setField (some (powerOfCode v)) (fun x => { s.st with power := x }) s).outcome

/-- SETMODE M (R403). -/
def execSetMode (m : BitVec 2) (s : State) : Result :=
  (setField (Mode.ofCode? m) (fun x => { s.st with mode := x }) s).outcome

/-- SETTEMP T (R404). -/
def execSetTemp (t : BitVec 5) (s : State) : Result :=
  (setField (Temp.ofCode? t) (fun x => { s.st with temp := x }) s).outcome

/-- SETFAN F (R405): the domain is the same in both variants. -/
def execSetFan (f : BitVec 3) (s : State) : Result :=
  (setField (Fan.ofCode? f) (fun x => { s.st with fan := x }) s).outcome

/-- SETDIR D (R406). -/
def execSetDir (d : BitVec 3) (s : State) : Result :=
  (setField (Dir.ofCode? d) (fun x => { s.st with dir := x }) s).outcome

end Sys2Proof.Machine
end

