-- ==== Sys2Proof/Machine/Carrier.lean ====
section
/-! DEFINITION. The carrier multiplexer CM: the carrier constants (R551 to R553) and the expansion of marks and spaces
(R554 to R557). The order inside a cycle and the unmerged idle segments are the spec's decisions D14 and D16 (log 17). -/

namespace Sys2Proof.Machine

/-- CYCLE, the carrier period in µs rounded to the nearest integer (R551). -/
def carrierCycle : Nat := (2 * 1000000 + Config.carrierFreq) / (2 * Config.carrierFreq)

/-- ACTIVE (R552). -/
def carrierActive : Nat := carrierCycle * Config.dutyNum / Config.dutyDen

/-- IDLE, the remainder (R553). -/
def carrierIdle : Nat := carrierCycle - carrierActive

/-- One whole carrier cycle: active, then idle (R554). -/
def carrierPair : List Segment := [⟨true, BitVec.ofNat 16 carrierActive⟩, ⟨false, BitVec.ofNat 16 carrierIdle⟩]

/-- A mark becomes its whole carrier cycles; the remainder is dropped (R554, R555). -/
def synthMark (d : Dur) : List Segment := (List.replicate (d.toNat / carrierCycle) carrierPair).flatten

/-- A space becomes one idle segment, whatever its length (R556, R563). -/
def synthSpace (d : Dur) : List Segment := [⟨false, d⟩]

/-- Element `k` of a train: a mark if `k` is even, else a space (R506, R557). -/
def synthElement (k : Nat) (d : Dur) : List Segment := if k % 2 = 0 then synthMark d else synthSpace d

/-- The segments of the elements from index `k` on, in index order (R557, R209). -/
def segmentsFrom : Nat → List Dur → List Segment
  | _, [] => []
  | k, d :: l => synthElement k d ++ segmentsFrom (k + 1) l

/-- The segment list of a train (R557). -/
def segments (pt : PulseTrain) : List Segment := segmentsFrom 0 pt.toList

end Sys2Proof.Machine
end

