-- ==== Sys2Proof/Machine/Bits.lean ====
section
/-! DEFINITION. The string and byte primitives of R15, and the byte view of a frame (R205, R206). -/

namespace Sys2Proof.Machine

/-- `bin8 v`: the byte string of `v`, most significant bit first (R15). A literal of R13 in backquotes is `bin8` of the
same digits read as a binary number. -/
def bin8 (v : BitVec 8) : ByteStr := Vector.ofFn fun i => v.getLsbD (7 - i.val)

/-- `rev8 s`: the string reversed character by character (R15). -/
def rev8 (s : ByteStr) : ByteStr := Vector.ofFn fun i => s[7 - i.val]

/-- `val8 s`: the reading of `s` most significant bit first (R15). -/
def val8 (s : ByteStr) : Nat := ((List.finRange 8).map fun i => s[i].toNat * 2 ^ (7 - i.val)).sum

/-- `wval8 s`: the wire value, least significant bit first (R15, R206). -/
def wval8 (s : ByteStr) : Nat := val8 (rev8 s)

/-- Byte `k + 1` of a frame: its characters `8k` to `8k + 7` (R15 `byte`, R205). -/
def frameByte (f : Frame2) (k : Fin 19) : ByteStr := Vector.ofFn fun i => f[8 * k.val + i.val]

/-- The concatenation of byte strings, in order (R452). -/
def concatBytes (bs : List ByteStr) : BitStr := bs.flatMap Vector.toList

theorem concatBytes_length (bs : List ByteStr) : (concatBytes bs).length = 8 * bs.length := by
  induction bs with
  | nil => rfl
  | cons b bs ih => simp only [concatBytes, List.flatMap_cons, List.length_append, List.length_cons] at *; simp [ih]; omega

end Sys2Proof.Machine
end

