-- ==== Sys2Proof/Machine/Frame.lean ====
section
/-! DEFINITION. The frame encoder FE: the 19 bytes of frame2 (R452 to R464). Elided codes (F2 to F4, P2 to P4) follow the
spec's decision D7 (log 14), the variant-B byte 9 D8 (log 15), the checksum D9 (log 16). -/

namespace Sys2Proof.Machine

/-- The mode OR-masks of byte 6 (R454). -/
def modeMask : Mode → BitVec 8
  | .cool => 0b00001100
  | .dry => 0b00000100
  | .heat => 0b00000010

/-- The integer of byte 6: power and mode (R455). -/
def b6 (st : ST) : BitVec 8 := (if st.power then 0b10000000 else 0) ||| modeMask st.mode

/-- The pre-reversal value of byte 7: temperature (R456). -/
def b7 (st : ST) : BitVec 8 := 0b00100000 ||| ((st.temp.deg.setWidth 8 - 16) <<< 1)

/-- The fan nibble of variant A (R460). -/
def fanNibble : Fan → BitVec 8
  | 0 => 0b1010
  | 1 => 0b0100
  | 2 => 0b0101
  | 3 => 0b0110
  | 4 => 0b0111
  | 5 => 0b1000

/-- The swing nibble of variant A (R461). -/
def swingNibble : Dir → BitVec 8
  | .auto => 0b1111
  | .p1 => 0b0001
  | .p2 => 0b0010
  | .p3 => 0b0011
  | .p4 => 0b0100
  | .p5 => 0b0101

/-- The pre-reversal value of byte 9 in variant A: fan nibble high, swing nibble low (R462). -/
def b9 (st : ST) : BitVec 8 := (fanNibble st.fan <<< 4) ||| swingNibble st.dir

/-- Byte 9 on the wire: variant A R462, variant B the constant of R463, which ignores FAN and DIR. -/
def byte9 : Variant → ST → ByteStr
  | .A, st => rev8 (bin8 (b9 st))
  | .B, _ => bin8 0b10000101

/-- Bytes 1 to 18, each in its on-wire order (R452): the constants of R453, byte 6 (R455), byte 7 (R456), byte 9. -/
def bytes1to18 (v : Variant) (st : ST) : List ByteStr :=
  [bin8 0b01000000, bin8 0b00000100, bin8 0b00000111, bin8 0b00100000, bin8 0b00000000,
   bin8 (b6 st), rev8 (bin8 (b7 st)), bin8 0b00000001, byte9 v st,
   bin8 0b00000000, bin8 0b00000000, bin8 0b01100000, bin8 0b00000110, bin8 0b00000000,
   bin8 0b00000000, bin8 0b00000001, bin8 0b00000000, bin8 0b01101000]

/-- The checksum: the sum of the bytes' wire values, modulo 256 (R464). -/
def checksum (bs : List ByteStr) : Nat := (bs.map wval8).sum % 256

/-- The 19 bytes of frame2: bytes 1 to 18 and the bit-reversed checksum (R452, R464). -/
def frameBytes (v : Variant) (st : ST) : List ByteStr :=
  bytes1to18 v st ++ [rev8 (bin8 (BitVec.ofNat 8 (checksum (bytes1to18 v st))))]

/-- frame2 of a state (R452): 152 characters, a function of the variant and ST alone (R467, R468). -/
def frame2Of (v : Variant) (st : ST) : Frame2 :=
  ⟨(concatBytes (frameBytes v st)).toArray, by simp [concatBytes_length, frameBytes, bytes1to18]⟩

end Sys2Proof.Machine
end

