-- ==== Sys2Proof/Machine/Pulse.lean ====
section
/-! DEFINITION. The pulse-train generator PG: the six-step assembly of R503 and the sequencer form of R509. -/

namespace Sys2Proof.Machine

/-- The space that carries a bit's value (R502). -/
def bitSpace (t : Timing) (b : Bool) : Dur := if b then t.bit1Off else t.bit0Off

/-- A bit: a mark of constant length, then its space (R502). -/
def bitPulses (t : Timing) (b : Bool) : List Dur := [t.bitOn, bitSpace t b]

/-- The pulses of a string, character 0 first (R502, R204). -/
def bitsPulses (t : Timing) (s : BitStr) : List Dur := s.flatMap (bitPulses t)

/-- The assembly: header, frame1, separator, header, frame2, trailing mark (R503). -/
def pulseList (t : Timing) (f1 f2 : BitStr) : List Dur :=
  [t.headerOn, t.headerOff] ++ bitsPulses t f1 ++ [t.bitOn, t.separatorOff] ++ [t.headerOn, t.headerOff] ++
    bitsPulses t f2 ++ [t.bitOn]

theorem bitsPulses_length (t : Timing) (s : BitStr) : (bitsPulses t s).length = 2 * s.length := by
  induction s with
  | nil => rfl
  | cons b s ih => simp only [bitsPulses, List.flatMap_cons, List.length_append, List.length_cons] at *; simp [ih, bitPulses]; omega

/-- The pulse train of FRAME1 and FRAME2: 451 durations (R503, R505). -/
def pulses (p : Params) (f2 : Frame2) : PulseTrain :=
  ⟨(pulseList p.timing p.frame1.toList f2.toList).toArray, by simp [pulseList, bitsPulses_length]⟩

/-- The phases of the sequencer (R509); a bit phase carries the bit's index and whether it is the mark. -/
inductive Phase where
  | hdr1On
  | hdr1Off
  | f1Bit (i : Nat) (mark : Bool)
  | sepOn
  | sepOff
  | hdr2On
  | hdr2Off
  | f2Bit (j : Nat) (mark : Bool)
  | trail
  | done
deriving DecidableEq, Repr

/-- The phase at counter `k` (R509), decided by `k` alone. -/
def phase (k : Nat) : Phase :=
  if k = 0 then .hdr1On
  else if k = 1 then .hdr1Off
  else if k ≤ 141 then .f1Bit ((k - 2) / 2) (k % 2 = 0)
  else if k = 142 then .sepOn
  else if k = 143 then .sepOff
  else if k = 144 then .hdr2On
  else if k = 145 then .hdr2Off
  else if k ≤ 449 then .f2Bit ((k - 146) / 2) (k % 2 = 0)
  else if k = 450 then .trail
  else .done

/-- The element the sequencer puts out in a phase, none when it is done (R504, R509). -/
def Phase.output (p : Params) (f2 : Frame2) : Phase → Option Dur
  | .hdr1On => some p.timing.headerOn
  | .hdr1Off => some p.timing.headerOff
  | .f1Bit _ true => some p.timing.bitOn
  | .f1Bit i false => p.frame1.toList[i]?.map (bitSpace p.timing)
  | .sepOn => some p.timing.bitOn
  | .sepOff => some p.timing.separatorOff
  | .hdr2On => some p.timing.headerOn
  | .hdr2Off => some p.timing.headerOff
  | .f2Bit _ true => some p.timing.bitOn
  | .f2Bit j false => f2.toList[j]?.map (bitSpace p.timing)
  | .trail => some p.timing.bitOn
  | .done => none

/-- The outputs of the sequencer at `k = 0 .. 450` (R509). -/
def sequencerOutputs (p : Params) (f2 : Frame2) : List Dur :=
  (List.range 451).filterMap fun k => (phase k).output p f2

end Sys2Proof.Machine
end

