-- ==== Sys2Proof/Machine/Stages.lean ====
section
/-! DEFINITION. The three stages of the pipeline: ENCODE (R451), CONVERT (R501), SYNTH (R557). Each is first the `perform`
step that SEND also takes (R609), then the command's own meaning. -/

namespace Sys2Proof.Machine

/-- ENCODE's step (R451, R469): never faults. -/
def State.encodeStep (s : State) : Performed := .done (s.putFrame2 (frame2Of s.params.variant s.st))

/-- CONVERT's step (R501, R511). -/
def State.convertStep (s : State) : Performed :=
  match s.frame2 with
  | none => .faulted (s.raise .notReady)
  | some f => .done (s.putPt (pulses s.params f))

/-- SYNTH's step (R557): the list must fit SEG_CAP (R708). -/
def State.synthStep (s : State) : Performed :=
  match s.pt with
  | none => .faulted (s.raise .notReady)
  | some p =>
    if s.params.segCap < (segments p).length then .faulted (s.raise .capacity) else .done (s.putSeg (segments p))

/-- ENCODE (R451). -/
def execEncode (s : State) : Result := s.encodeStep.outcome

/-- CONVERT (R501). -/
def execConvert (s : State) : Result := s.convertStep.outcome

/-- SYNTH (R557). -/
def execSynth (s : State) : Result := s.synthStep.outcome

end Sys2Proof.Machine
end

