-- ==== Sys2Proof/Machine/Transmit.lean ====
section
/-! DEFINITION. TRANSMIT up to the engine's answer (R601 to R604; the completion is the engine's move, R605) and SEND, the
Controller (R609, R610). -/

namespace Sys2Proof.Machine

/-- TRANSMIT's step (R601): the request and its answer, a draw (R725). A refusal is no fault (R603, R709). -/
def State.transmitStep (s : State) : Performed :=
  match s.seg with
  | none => .faulted (s.raise .notReady)
  | some l =>
    match s.engine.answer with
    | .accept => .done (s.acceptRequest l)
    | .refuse => .done s.refuseRequest

/-- TRANSMIT (R601). -/
def execTransmit (s : State) : Result := s.transmitStep.outcome

/-- SEND (R609): the four steps in order; after a fault the later ones do not run and the earlier writes stay (R610). -/
def execSend (s : State) : Result :=
  (((s.encodeStep.andThen State.convertStep).andThen State.synthStep).andThen State.transmitStep).outcome

end Sys2Proof.Machine
end

