-- ==== Sys2Proof/Machine/Dispatch.lean ====
section
/-! DEFINITION. `exec`: the `perform` step of the command cycle (R401), one arm per command. -/

namespace Sys2Proof.Machine

def exec (i : Instr) (s : State) : Host.Outcome State Fault Refusal :=
  match i with
  | .setpwr v => Sys2Proof.Machine.execSetPwr v s
  | .setmode m => Sys2Proof.Machine.execSetMode m s
  | .settemp t => Sys2Proof.Machine.execSetTemp t s
  | .setfan f => Sys2Proof.Machine.execSetFan f s
  | .setdir d => Sys2Proof.Machine.execSetDir d s
  | .encode => Sys2Proof.Machine.execEncode s
  | .convert => Sys2Proof.Machine.execConvert s
  | .synth => Sys2Proof.Machine.execSynth s
  | .transmit => Sys2Proof.Machine.execTransmit s
  | .send => Sys2Proof.Machine.execSend s

end Sys2Proof.Machine
end

