-- ==== Sys2Proof/Machine/Cycle.lean ====
section
/-! DEFINITION. The command cycle of R401 for one command word. -/

namespace Sys2Proof.Machine

/-- The block accepts a word, with the word already taken from the host's moves (R401): a faulted block ignores it (R711),
a word that spells no command raises ILLEGAL_COMMAND (R704), any other command is performed. -/
def acceptWord (w : Word) (s : State) : Result :=
  if s.status.fault then .next s
  else
    match decode w with
    | .illegal _ => .next (s.raise .illegalCommand)
    | .command i => exec i s

end Sys2Proof.Machine
end

