-- ==== Sys2Proof/Machine/Step.lean ====
section
/-! DEFINITION. One step of the machine: the command cycle of R401 for the host's next word, reset (R801), or the engine's
move while BUSY = 1 (R605). -/

namespace Sys2Proof.Machine

/-- One step (R401, R718). -/
def step (s : State) : Host.Outcome State Fault Refusal :=
  match s.nextMove with
  | .engine => .next s.engineMove
  | .word w s' => acceptWord w s'
  | .reset s' => .next s'.assertReset
  | .nobody => .refused .noHostMove

/-- The host's next move is the table word of `nbits` bits, the bits above `nbits` being 0 (log 25, 26). -/
def State.withFetchWord (s : State) (nbits w : Nat) : State := s.deliver (BitVec.ofNat 16 (w % 2 ^ nbits))

end Sys2Proof.Machine
end

