-- ==== Sys2Proof/Machine/Assembler.lean ====
section
/-! DEFINITION. The assembler syntax of R308 and the pseudo-commands of R309: from a source line to the command words it
stands for. It is no part of the block (D31); the conventions the spec does not give are log 21. -/

namespace Sys2Proof.Machine

/-- A fan operand: a name, or a raw code `#n` (R308). -/
inductive FanArg where
  | name (n : FanName)
  | code (n : Nat)
deriving DecidableEq, Repr

/-- A direction operand: a name, or a raw code `#n` (R308). -/
inductive DirArg where
  | name (d : Dir)
  | code (n : Nat)
deriving DecidableEq, Repr

/-- The operands of SETSTATE and APPLY (R309). -/
structure StateArgs where
  power : Bool
  mode : Mode
  temp : Nat
  fan : FanArg
  dir : DirArg
deriving DecidableEq, Repr

/-- A source line, read (R308, R309). -/
inductive AsmLine where
  | setpwr (on : Bool)
  | setmode (m : Mode)
  | settemp (t : Nat)
  | setfan (f : FanArg)
  | setdir (d : DirArg)
  | encode
  | convert
  | synth
  | transmit
  | send
  | setstate (a : StateArgs)
  | prepare
  | apply (a : StateArgs)
deriving DecidableEq, Repr

/-- A number that fits a field of `n` bits; one that does not is an assembly error (R308). -/
def fitField (n v : Nat) : Option (BitVec n) := if v < 2 ^ n then some (BitVec.ofNat n v) else none

/-- SETPWR with its operand (R308). -/
def asmPower (on : Bool) : Instr := .setpwr (BitVec.ofBool on)

/-- SETMODE with its operand (R308). -/
def asmMode (m : Mode) : Instr := .setmode m.code

/-- SETTEMP with a decimal operand; a number above 31 is an assembly error (R308). -/
def asmTemp (t : Nat) : Option Instr := (fitField 5 t).map .settemp

/-- SETFAN: a name of the variant, or a raw code up to 7 (R308). -/
def asmFan (v : Variant) : FanArg → Option Instr
  | .name n => (fanOfName v n).map fun f => .setfan (Fan.code f)
  | .code n => (fitField 3 n).map .setfan

/-- SETDIR: a name, or a raw code up to 7 (R308). -/
def asmDir : DirArg → Option Instr
  | .name d => some (.setdir d.code)
  | .code n => (fitField 3 n).map .setdir

/-- The expansion of SETSTATE (R309). -/
def asmState (v : Variant) (a : StateArgs) : Option (List Instr) :=
  match asmTemp a.temp, asmFan v a.fan, asmDir a.dir with
  | some t, some f, some d => some [asmPower a.power, asmMode a.mode, t, f, d]
  | _, _, _ => none

/-- The expansion of PREPARE (R309). -/
def asmPrepare : List Instr := [.encode, .convert, .synth]

/-- The commands of a line, none on an assembly error (R308, R309). -/
def assemble (v : Variant) : AsmLine → Option (List Instr)
  | .setpwr on => some [asmPower on]
  | .setmode m => some [asmMode m]
  | .settemp t => (asmTemp t).map fun i => [i]
  | .setfan f => (asmFan v f).map fun i => [i]
  | .setdir d => (asmDir d).map fun i => [i]
  | .encode => some [.encode]
  | .convert => some [.convert]
  | .synth => some [.synth]
  | .transmit => some [.transmit]
  | .send => some [.send]
  | .setstate a => asmState v a
  | .prepare => some asmPrepare
  | .apply a => (asmState v a).map fun is => is ++ [.send]

/-- The decimal value of a digit. -/
def digitValue (c : Char) : Option Nat := if c.isDigit then some (c.toNat - '0'.toNat) else none

/-- A decimal number of at least one digit. -/
def decimal (cs : List Char) : Option Nat :=
  if cs.isEmpty then none
  else cs.foldl (fun acc c => acc.bind fun n => (digitValue c).map fun d => 10 * n + d) (some 0)

/-- A raw code `#n` (R308). -/
def rawCode : List Char → Option Nat
  | '#' :: cs => decimal cs
  | _ => none

/-- Operand names are case-insensitive (R308). -/
def upper (cs : List Char) : List Char := cs.map Char.toUpper

/-- The first entry of a table whose name is `cs`, read without regard to case. -/
def named {α : Type} (table : List (String × α)) (cs : List Char) : Option α :=
  (table.find? fun e => e.1.toList == upper cs).map Prod.snd

/-- The operand of SETPWR (R308). -/
def readPower (cs : List Char) : Option Bool := named [("ON", true), ("OFF", false), ("1", true), ("0", false)] cs

/-- The operand of SETMODE (R308). -/
def readMode (cs : List Char) : Option Mode := named [("COOL", .cool), ("DRY", .dry), ("HEAT", .heat)] cs

/-- The fan names of both variants (R105, R308); whether the variant has the name is checked by `asmFan`. -/
def fanNames : List (String × FanName) :=
  [("AUTO", .auto), ("F1", .f1), ("F2", .f2), ("F3", .f3), ("F4", .f4), ("F5", .f5), ("SILENT", .silent),
   ("LEVEL1", .level1), ("LEVEL2", .level2), ("LEVEL3", .level3), ("LEVEL4", .level4)]

/-- The operand of SETFAN (R308). -/
def readFan (cs : List Char) : Option FanArg :=
  match rawCode cs with
  | some n => some (.code n)
  | none => (named fanNames cs).map .name

/-- The operand of SETDIR (R308). -/
def readDir (cs : List Char) : Option DirArg :=
  match rawCode cs with
  | some n => some (.code n)
  | none =>
    (named [("AUTO", Dir.auto), ("P1", .p1), ("P2", .p2), ("P3", .p3), ("P4", .p4), ("P5", .p5)] cs).map .name

/-- The five operands of SETSTATE and APPLY (R309). -/
def readState (p m t f d : List Char) : Option StateArgs :=
  match readPower p, readMode m, decimal t, readFan f, readDir d with
  | some p, some m, some t, some f, some d => some ⟨p, m, t, f, d⟩
  | _, _, _, _, _ => none

/-- A blank or a comma separates the parts of a line (log 21). -/
def isSeparator (c : Char) : Bool := c == ' ' || c == '\t' || c == ','

/-- The parts of a line; `part` is the part being read, in reverse. -/
def splitParts : List Char → List Char → List (List Char)
  | part, [] => if part.isEmpty then [] else [part.reverse]
  | part, c :: cs =>
    if isSeparator c then (if part.isEmpty then splitParts [] cs else part.reverse :: splitParts [] cs)
    else splitParts (c :: part) cs

/-- The parts of a line before its comment (R308). -/
def lineParts (l : String) : List (List Char) := splitParts [] (l.toList.takeWhile fun c => c != ';')

/-- A command with no operand. -/
def readPlain (mn : List Char) : Option AsmLine :=
  (List.find? (fun e => e.1.toList == mn)
    [("ENCODE", AsmLine.encode), ("CONVERT", .convert), ("SYNTH", .synth), ("TRANSMIT", .transmit), ("SEND", .send),
     ("PREPARE", .prepare)]).map Prod.snd

/-- A command with one operand. -/
def readUnary (mn op : List Char) : Option AsmLine :=
  if mn == "SETPWR".toList then (readPower op).map .setpwr
  else if mn == "SETMODE".toList then (readMode op).map .setmode
  else if mn == "SETTEMP".toList then (decimal op).map .settemp
  else if mn == "SETFAN".toList then (readFan op).map .setfan
  else if mn == "SETDIR".toList then (readDir op).map .setdir
  else none

/-- The commands of a source line, none on an assembly error; a line with a comment only has no command (R308, R309). -/
def assembleLine (v : Variant) (l : String) : Option (List Instr) :=
  match lineParts l with
  | [] => some []
  | [mn] => (readPlain mn).bind (assemble v)
  | [mn, op] => (readUnary mn op).bind (assemble v)
  | [mn, p, m, t, f, d] =>
    if mn == "SETSTATE".toList then (readState p m t f d).bind fun a => assemble v (.setstate a)
    else if mn == "APPLY".toList then (readState p m t f d).bind fun a => assemble v (.apply a)
    else none
  | _ => none

/-- The command words of a source line (R308, R310). -/
def assembleWords (v : Variant) (l : String) : Option (List Word) := (assembleLine v l).map fun is => is.map encode

end Sys2Proof.Machine
end

