-- ==== Sys2Proof/Safety.lean ====
section
/-! DEFINITION. What a safe run is (no fault), the runs of the machine, and the coherence invariant that ties the buffers,
STATUS and the engine's handles together. -/

namespace Sys2Proof.Machine

/-- No fault since reset (R117). -/
def Safe (s : State) : Prop := s.status.fault = false

/-- FRAME2 holds the frame of some in-domain state (R108, R111). -/
def FrameCoherent (s : State) : Prop :=
  ∀ f, s.frame2 = some f → ∃ st, f = frame2Of s.params.variant st

/-- PT holds the pulse train of the frame now in FRAME2 (R469: a new frame leaves no older train). -/
def TrainCoherent (s : State) : Prop :=
  ∀ p, s.pt = some p → ∃ f, s.frame2 = some f ∧ p = pulses s.params f

/-- SEG holds the segments of the train now in PT and fits SEG_CAP (R113, R511: a new train leaves no older segments). -/
def SegmentsCoherent (s : State) : Prop :=
  ∀ l, s.seg = some l → ∃ p, s.pt = some p ∧ l = segments p ∧ l.length ≤ s.params.segCap

/-- ERR is NONE exactly when FAULT is 0, and is never FRAME_LENGTH (R117, R702, R707). -/
def FaultCoherent (s : State) : Prop :=
  (s.status.fault = false ↔ s.status.err = .none) ∧ s.status.err ≠ .frameLength

/-- While BUSY = 1 the engine holds handles on exactly SEG and the output line, and has shown so much of SEG's waveform on
that line, TXRES is NONE and there is no fault; while BUSY = 0 there are no handles; and TXRES is OK only after the whole
waveform was shown on the output line (R115, R116, R121, R214, R608, R726). -/
def EngineCoherent (s : State) : Prop :=
  (s.status.busy = true →
    s.status.txres = .none ∧ s.status.fault = false ∧
      ∃ l, s.seg = some l ∧ s.engine.handles = some ⟨s.params.outputLine, l⟩ ∧
        ∃ n, n ≤ totalTime l ∧ s.engine.emission = some ⟨s.params.outputLine, l, n⟩) ∧
  (s.status.busy = false → s.engine.handles = none) ∧
  (s.status.txres = .ok → ∃ l, s.engine.emission = some ⟨s.params.outputLine, l, totalTime l⟩)

/-- The coherence invariant. -/
structure Coherent (s : State) : Prop where
  frame : FrameCoherent s
  train : TrainCoherent s
  segs : SegmentsCoherent s
  fault : FaultCoherent s
  engine : EngineCoherent s

/-- The states a block can come to: any block after reset, any list of host moves, any draws of the engine (R725, R727),
then steps. -/
inductive Reachable : State → Prop where
  | start (p : Params) (moves : List HostMove) (a : Answer) (m : EngineMove) :
      Reachable
        { State.built p with
          host := moves
          engine := { (State.built p).engine with answer := a, move := m } }
  | step (s t : State) : Reachable s → step s = .next t → Reachable t

end Sys2Proof.Machine
end

