-- ==== Sys2Proof/WellFormed.lean ====
section
/-! DEFINITION. The checks on a command term. Each operand has exactly the width of its field (R302, R303), so every term
of `Instr` is a legal command word and there is nothing to check for that; what is left is the domain of the operand's
value (R304). A term that fails it is still a legal encoding (R306) and its command raises DOMAIN_VIOLATION. -/

namespace Sys2Proof

/-- The operand's value is in the domain of R304 (the same in both variants). -/
def Instr.inDomain : Instr → Bool
  | .setpwr _ => true
  | .setmode m => m.toNat ≤ 2
  | .settemp t => 16 ≤ t.toNat && t.toNat ≤ 30
  | .setfan f => f.toNat ≤ 5
  | .setdir d => d.toNat ≤ 5
  | .encode => true
  | .convert => true
  | .synth => true
  | .transmit => true
  | .send => true

end Sys2Proof
end

