-- ==== Sys2Proof/Certificates/Slice0/Obligations.lean ====
section
/-! DEFINITION. The statements for the provers, in the order of OBLIGATIONS.json. Each docstring names the rule it
formalises. -/

open Sys2Proof Sys2Proof.Machine

/-! ## Decoding and encoding -/

/-- R307 with R302: the decoder reads back the word of every command, with every operand value. -/
def Obligations.DecodeReadsBackEveryCommand : Prop :=
  ∀ i : Instr, decode (encode i) = .command i

/-- R305, R307: a word spells at most the command whose word it is, so no bit of a word is ignored. -/
def Obligations.DecodedWordIsTheCommandsWord : Prop :=
  ∀ (w : Word) (i : Instr), decode w = .command i → encode i = w

/-- R305: exactly the unlisted opcodes, and the listed ones with a must-be-zero bit set, are illegal. -/
def Obligations.IllegalWordsAreTheReservedOnes : Prop :=
  ∀ w : Word,
    (∃ why, decode w = .illegal why) ↔
      (w >>> 12 ∈ [0x0#16, 0x6, 0x7, 0xD, 0xE, 0xF] ∨
        (w >>> 12 = 0x1 ∧ w &&& 0x0FFE ≠ 0) ∨ (w >>> 12 = 0x2 ∧ w &&& 0x0FFC ≠ 0) ∨
        (w >>> 12 = 0x3 ∧ w &&& 0x0FE0 ≠ 0) ∨ (w >>> 12 = 0x4 ∧ w &&& 0x0FF8 ≠ 0) ∨
        (w >>> 12 = 0x5 ∧ w &&& 0x0FF8 ≠ 0) ∨
        (w >>> 12 ∈ [0x8#16, 0x9, 0xA, 0xB, 0xC] ∧ w &&& 0x0FFF ≠ 0))

/-- R310: the worked encodings. -/
def Obligations.WorkedWordsDecodeAsGiven : Prop :=
  decode 0x1001 = .command (.setpwr 1) ∧ decode 0x2002 = .command (.setmode 2) ∧
    decode 0x3019 = .command (.settemp 25) ∧ decode 0x4005 = .command (.setfan 5) ∧
    decode 0x5003 = .command (.setdir 3) ∧ decode 0xC000 = .command .send ∧
    decode 0x1003 = .illegal .mustBeZero ∧
    decode 0x301F = .command (.settemp 31) ∧ (Instr.settemp 31).inDomain = false

/-! ## One step: the command cycle, reset, the engine -/

/-- R401: when the block is idle and not faulted and the host's next word decodes to a command, the step is that command,
performed with the word taken from the host. -/
def Obligations.StepRunsTheDecodedCommand : Prop :=
  ∀ (s : State) (w : Word) (rest : List HostMove) (i : Instr),
    s.status.busy = false → s.status.fault = false → s.host = .word w :: rest → decode w = .command i →
      step s = exec i { s with host := rest }

/-- R704: a word that spells no command sets FAULT and ERR = ILLEGAL_COMMAND and changes nothing else. -/
def Obligations.IllegalWordRaisesIllegalCommand : Prop :=
  ∀ (s : State) (w : Word) (rest : List HostMove) (why : Illegal),
    s.status.busy = false → s.status.fault = false → s.host = .word w :: rest → decode w = .illegal why →
      step s =
        .next { s with host := rest, status := { s.status with fault := true, err := .illegalCommand } }

/-- R711: a faulted block accepts any number of words and ignores them, with no write of any kind, and only reset leaves the
faulted state. -/
def Obligations.FaultedBlockIgnoresEveryWord : Prop :=
  ∀ (s : State) (ws : List Word) (rest : List HostMove),
    s.status.busy = false → s.status.fault = true → s.host = ws.map .word ++ rest →
      Sys2Proof.core.run ws.length s = .next { s with host := rest } ∧
        ∀ t, step s = .next t → t.status.fault = false → s.host.head? = some .reset

/-- R604, R807, R214: while BUSY = 1 a step accepts no word, and of the block it writes at most BUSY and TXRES, which a
completion writes (R605); the host's moves wait. That it answers next also when the engine has not reported is the model's
choice (log 9: an engine that goes on without a report takes a step). -/
def Obligations.BusyStepAcceptsNothing : Prop :=
  ∀ s : State, s.status.busy = true →
    ∃ t, step s = .next t ∧ t.host = s.host ∧ t.params = s.params ∧ t.st = s.st ∧ t.frame2 = s.frame2 ∧
      t.pt = s.pt ∧ t.seg = s.seg ∧ t.status.fault = s.status.fault ∧ t.status.err = s.status.err

/-- R801, R802: reset, asserted when BUSY = 0, leaves the reset state, faulted or not, which is also that of a newly built
block; the parameters stay. -/
def Obligations.ResetMoveLeavesTheResetState : Prop :=
  ∀ (s : State) (rest : List HostMove), s.status.busy = false → s.host = .reset :: rest →
    ∃ t, step s = .next t ∧ t.params = s.params ∧
      t.st.power = false ∧ t.st.mode = .cool ∧ t.st.temp.deg = 25 ∧ t.st.fan = 0 ∧ t.st.dir = .auto ∧
      t.frame2 = none ∧ t.pt = none ∧ t.seg = none ∧
      t.status = ⟨false, .none, false, .none⟩ ∧ t.engine.handles = none ∧ t.host = rest ∧
      (State.built s.params).st = t.st ∧ (State.built s.params).status = t.status

/-- R124, R104, R114: a newly built block of any parameters reads ST = 0x00C8 and STATUS = 0x0000, and holds no buffer and
no handle. -/
def Obligations.NewBlockIsInTheResetState : Prop :=
  ∀ p : Params,
    (State.built p).readPort .st = .ok (.word 0x00C8) ∧ (State.built p).readPort .status = .ok (.word 0x0000) ∧
      (State.built p).frame2 = none ∧ (State.built p).pt = none ∧ (State.built p).seg = none ∧
      (State.built p).engine.handles = none ∧ (State.built p).params = p

/-- R7, R802: no step changes a parameter. -/
def Obligations.StepKeepsTheParameters : Prop :=
  ∀ s t : State, step s = .next t → t.params = s.params

/-- Derived from R701 and R718: a step never stops with a fault, and there is none exactly when BUSY = 0 and the host has no
move. R718 gives the block a step on a command word and on an engine report; that there is also one while BUSY = 1 without a
report is the model's choice (log 9), and so are the host's list and the refusal by name where it is empty (log 7). -/
def Obligations.StepMovesUnlessNobodyHasAMove : Prop :=
  ∀ s : State,
    ((∃ t, step s = .next t) ↔ (s.status.busy = true ∨ s.host ≠ [])) ∧
      (s.status.busy = false → s.host = [] → step s = .refused .noHostMove)

/-! ## The setters -/

/-- R402: SETPWR writes bit 0 of the ST word and nothing else; every operand is in domain. -/
def Obligations.SetPwrWritesThePowerField : Prop :=
  ∀ (v : BitVec 1) (s : State),
    decode (0x1000 ||| v.setWidth 16) = .command (.setpwr v) ∧
      ∃ x : ST, exec (.setpwr v) s = .next { s with st := x } ∧
        x.word = (s.st.word &&& ~~~(0x0001#16)) ||| v.setWidth 16

/-- R403: SETMODE writes bits 2:1 of the ST word and nothing else, unless M = 3, which raises DOMAIN_VIOLATION. -/
def Obligations.SetModeWritesTheModeField : Prop :=
  ∀ (m : BitVec 2) (s : State),
    decode (0x2000 ||| m.setWidth 16) = .command (.setmode m) ∧
      (m ≠ 3 → ∃ x : ST, exec (.setmode m) s = .next { s with st := x } ∧
        x.word = (s.st.word &&& ~~~(0x0006#16)) ||| (m.setWidth 16 <<< 1)) ∧
      (m = 3 → s.status.fault = false →
        exec (.setmode m) s = .next { s with status := { s.status with fault := true, err := .domainViolation } })

/-- R404: SETTEMP writes bits 7:3 of the ST word and nothing else for 16 to 30, and raises DOMAIN_VIOLATION otherwise. -/
def Obligations.SetTempWritesTheTempField : Prop :=
  ∀ (t : BitVec 5) (s : State),
    decode (0x3000 ||| t.setWidth 16) = .command (.settemp t) ∧
      (16 ≤ t.toNat → t.toNat ≤ 30 → ∃ x : ST, exec (.settemp t) s = .next { s with st := x } ∧
        x.word = (s.st.word &&& ~~~(0x00F8#16)) ||| (t.setWidth 16 <<< 3)) ∧
      (t.toNat < 16 ∨ 30 < t.toNat → s.status.fault = false →
        exec (.settemp t) s = .next { s with status := { s.status with fault := true, err := .domainViolation } })

/-- R405: SETFAN writes bits 10:8 of the ST word and nothing else for 0 to 5, and raises DOMAIN_VIOLATION otherwise; in
variant B the frame does not depend on the new value. -/
def Obligations.SetFanWritesTheFanField : Prop :=
  ∀ (f : BitVec 3) (s : State),
    decode (0x4000 ||| f.setWidth 16) = .command (.setfan f) ∧
      (f.toNat ≤ 5 → ∃ x : ST, exec (.setfan f) s = .next { s with st := x } ∧
        x.word = (s.st.word &&& ~~~(0x0700#16)) ||| (f.setWidth 16 <<< 8) ∧ frame2Of .B x = frame2Of .B s.st) ∧
      (5 < f.toNat → s.status.fault = false →
        exec (.setfan f) s = .next { s with status := { s.status with fault := true, err := .domainViolation } })

/-- R406: SETDIR writes bits 13:11 of the ST word and nothing else for 0 to 5, and raises DOMAIN_VIOLATION otherwise; in
variant B the frame does not depend on the new value. -/
def Obligations.SetDirWritesTheDirField : Prop :=
  ∀ (d : BitVec 3) (s : State),
    decode (0x5000 ||| d.setWidth 16) = .command (.setdir d) ∧
      (d.toNat ≤ 5 → ∃ x : ST, exec (.setdir d) s = .next { s with st := x } ∧
        x.word = (s.st.word &&& ~~~(0x3800#16)) ||| (d.setWidth 16 <<< 11) ∧ frame2Of .B x = frame2Of .B s.st) ∧
      (5 < d.toNat → s.status.fault = false →
        exec (.setdir d) s = .next { s with status := { s.status with fault := true, err := .domainViolation } })

/-- R703, R306: a command faults by DOMAIN_VIOLATION exactly when its operand is outside the domain of R304, and then ST is
as before. -/
def Obligations.DomainViolationExactlyOutsideTheDomain : Prop :=
  ∀ (i : Instr) (s : State), s.status.fault = false → s.status.err = .none →
    ∃ t, exec i s = .next t ∧ (t.status.err = .domainViolation ↔ i.inDomain = false) ∧
      (i.inDomain = false → t.st = s.st)

/-- R407: whatever its operand, a setter leaves the buffers, BUSY, TXRES, the engine, the parameters and the host's moves as
they are. -/
def Obligations.SettersLeaveEverythingElse : Prop :=
  ∀ (i : Instr) (s : State),
    (∃ v, i = .setpwr v) ∨ (∃ m, i = .setmode m) ∨ (∃ x, i = .settemp x) ∨ (∃ f, i = .setfan f) ∨ (∃ d, i = .setdir d) →
      ∃ t, exec i s = .next t ∧ t.frame2 = s.frame2 ∧ t.pt = s.pt ∧ t.seg = s.seg ∧ t.status.busy = s.status.busy ∧
        t.status.txres = s.status.txres ∧ t.engine = s.engine ∧ t.params = s.params ∧ t.host = s.host

/-- R104, R108: in every state the ST word shows each field in its bits, bits 15:14 zero, and no code that is never held;
two states with the same word have the same five fields. -/
def Obligations.StWordShowsInDomainFields : Prop :=
  ∀ st : ST,
    st.word.extractLsb' 0 1 = BitVec.ofBool st.power ∧
      st.word.extractLsb' 1 2 = (match st.mode with | .cool => 0 | .dry => 1 | .heat => 2) ∧
      st.word.extractLsb' 3 5 = st.temp.deg ∧ st.word.extractLsb' 8 3 = BitVec.ofNat 3 st.fan.val ∧
      st.word.extractLsb' 11 3 =
        (match st.dir with | .auto => 0 | .p1 => 1 | .p2 => 2 | .p3 => 3 | .p4 => 4 | .p5 => 5) ∧
      st.word.extractLsb' 14 2 = 0 ∧
      st.word.extractLsb' 1 2 ≠ 3 ∧
      16 ≤ (st.word.extractLsb' 3 5).toNat ∧ (st.word.extractLsb' 3 5).toNat ≤ 30 ∧
      (st.word.extractLsb' 8 3).toNat ≤ 5 ∧ (st.word.extractLsb' 11 3).toNat ≤ 5 ∧
      ∀ y : ST, st.word = y.word → st = y

/-! ## ENCODE and the frame -/

/-- R451: ENCODE writes the frame of ST, leaves PT and SEG without a value, and changes nothing else; it never faults. -/
def Obligations.EncodeWritesTheFrameOfSt : Prop :=
  decode 0x8000 = .command .encode ∧
    ∀ s : State,
      exec .encode s = .next { s with frame2 := some (frame2Of s.params.variant s.st), pt := none, seg := none }

/-- R453: the fifteen constant bytes, their wire values and their sum, in both variants and for every state. -/
def Obligations.FrameConstantBytes : Prop :=
  ∀ (v : Variant) (st : ST),
    ([0, 1, 2, 3, 4, 7, 9, 10, 11, 12, 13, 14, 15, 16, 17] : List (Fin 19)).map (frameByte (frame2Of v st)) =
      [bin8 0b01000000, bin8 0b00000100, bin8 0b00000111, bin8 0b00100000, bin8 0b00000000, bin8 0b00000001,
       bin8 0b00000000, bin8 0b00000000, bin8 0b01100000, bin8 0b00000110, bin8 0b00000000, bin8 0b00000000,
       bin8 0b00000001, bin8 0b00000000, bin8 0b01101000] ∧
    ([0, 1, 2, 3, 4, 7, 9, 10, 11, 12, 13, 14, 15, 16, 17] : List (Fin 19)).map
        (fun k => wval8 (frameByte (frame2Of v st) k)) =
      [0x02, 0x20, 0xE0, 0x04, 0x00, 0x80, 0x00, 0x00, 0x06, 0x60, 0x00, 0x00, 0x80, 0x00, 0x16] ∧
    (([0, 1, 2, 3, 4, 7, 9, 10, 11, 12, 13, 14, 15, 16, 17] : List (Fin 19)).map
        (fun k => wval8 (frameByte (frame2Of v st) k))).sum = 642

/-- R454, R455: byte 6 is one of six strings, by power and mode, given with their wire values. -/
def Obligations.Byte6EncodesPowerAndMode : Prop :=
  ∀ (v : Variant) (st : ST),
    (frameByte (frame2Of v st) 5, wval8 (frameByte (frame2Of v st) 5)) =
      match st.power, st.mode with
      | false, .cool => (bin8 0b00001100, 0x30)
      | true, .cool => (bin8 0b10001100, 0x31)
      | false, .dry => (bin8 0b00000100, 0x20)
      | true, .dry => (bin8 0b10000100, 0x21)
      | false, .heat => (bin8 0b00000010, 0x40)
      | true, .heat => (bin8 0b10000010, 0x41)

/-- R457, R458: the wire value of byte 7 is twice the temperature, and reversing the byte, dropping bit 0, keeping four bits
and adding 16 gives the temperature back. -/
def Obligations.Byte7EncodesTheTemperature : Prop :=
  ∀ (v : Variant) (st : ST),
    wval8 (frameByte (frame2Of v st) 6) = 2 * st.temp.deg.toNat ∧
      ((val8 (rev8 (frameByte (frame2Of v st) 6)) >>> 1) &&& 0xF) + 16 = st.temp.deg.toNat

/-- Derived from R460, R461, R462: in variant A the wire value of byte 9 has the fan nibble high and the swing nibble low.
Rows F2 to F4 and P2 to P4 are a choice, the spec's decision D7 (log 14). -/
def Obligations.Byte9OfVariantAHoldsFanAndSwing : Prop :=
  ∀ st : ST,
    wval8 (frameByte (frame2Of .A st) 8) =
      16 * (match st.fan.val with | 0 => 10 | 1 => 4 | 2 => 5 | 3 => 6 | 4 => 7 | _ => 8) +
        (match st.dir with | .auto => 15 | .p1 => 1 | .p2 => 2 | .p3 => 3 | .p4 => 4 | .p5 => 5)

/-- Derived from R463: in variant B byte 9 is constant, and no character of the frame depends on FAN or DIR. That 10000101
is the string on the wire, with wire value 0xA1, is a choice, the spec's decision D8 (log 15). -/
def Obligations.VariantBIgnoresFanAndDir : Prop :=
  ∀ st : ST,
    frameByte (frame2Of .B st) 8 = bin8 0b10000101 ∧ wval8 (frameByte (frame2Of .B st) 8) = 0xA1 ∧
      ∀ (f : Fan) (d : Dir), frame2Of .B { st with fan := f, dir := d } = frame2Of .B st

/-- Derived from R464, R465: byte 19 is the bit-reversed sum modulo 256 of the wire values of bytes 1 to 18, in every frame
the encoder makes, and its wire value has the closed form of R465. That every byte is summed by its wire value is a choice, the
spec's decision D9 (log 16), and so is the 0xA1 of variant B, decision D8 (log 15). -/
def Obligations.Byte19IsTheChecksum : Prop :=
  ∀ (v : Variant) (st : ST),
    frameByte (frame2Of v st) 18 =
        rev8 (bin8 (BitVec.ofNat 8
          (((List.finRange 18).map fun k => wval8 (frameByte (frame2Of v st) (k.castLE (by omega)))).sum % 256))) ∧
      wval8 (frameByte (frame2Of v st) 18) =
        (0x82 + wval8 (frameByte (frame2Of v st) 5) + (b7 st).toNat +
          (match v with | .A => (b9 st).toNat | .B => 0xA1)) % 256

/-- R459: apart from byte 9, and the checksum byte 19 that is computed from it, no byte depends on the variant. -/
def Obligations.VariantsDifferInByte9AndItsChecksumOnly : Prop :=
  ∀ (st : ST) (k : Fin 19), k ≠ 8 → k ≠ 18 → frameByte (frame2Of .A st) k = frameByte (frame2Of .B st) k

/-- R471 and the vectors E1, E3, E6: three whole frames, given by their wire values. Byte 19 rests on the spec's decision D9
(log 16) and the variant-B frame on D8 (log 15). -/
def Obligations.WorkedFramesAreAsGiven : Prop :=
  (List.finRange 19).map
      (fun k => wval8 (frameByte (frame2Of .A ⟨true, .cool, ⟨25, by decide⟩, 0, .auto⟩) k)) =
    [0x02, 0x20, 0xE0, 0x04, 0x00, 0x31, 0x32, 0x80, 0xAF, 0x00, 0x00, 0x06, 0x60, 0x00, 0x00, 0x80, 0x00, 0x16, 0x94] ∧
  (List.finRange 19).map
      (fun k => wval8 (frameByte (frame2Of .A ⟨true, .heat, ⟨30, by decide⟩, 5, .p5⟩) k)) =
    [0x02, 0x20, 0xE0, 0x04, 0x00, 0x41, 0x3C, 0x80, 0x85, 0x00, 0x00, 0x06, 0x60, 0x00, 0x00, 0x80, 0x00, 0x16, 0x84] ∧
  (List.finRange 19).map
      (fun k => wval8 (frameByte (frame2Of .B ⟨false, .cool, ⟨25, by decide⟩, 0, .auto⟩) k)) =
    [0x02, 0x20, 0xE0, 0x04, 0x00, 0x30, 0x32, 0x80, 0xA1, 0x00, 0x00, 0x06, 0x60, 0x00, 0x00, 0x80, 0x00, 0x16, 0x85]

/-- Derived from R455 to R463: in variant A the frame determines the state (the codes of F2 to F4 and P2 to P4 rest on D7,
log 14); in variant B two states have the same frame exactly when POWER, MODE and TEMP agree. -/
def Obligations.FrameDeterminesWhatItEncodes : Prop :=
  ∀ x y : ST,
    (frame2Of .A x = frame2Of .A y ↔ x = y) ∧
      (frame2Of .B x = frame2Of .B y ↔ (x.power = y.power ∧ x.mode = y.mode ∧ x.temp = y.temp))

/-! ## CONVERT and the pulse train -/

/-- R501, R511: CONVERT writes the pulse train of FRAME1 and FRAME2, leaves SEG without a value and changes nothing else;
without a frame it raises NOT_READY. -/
def Obligations.ConvertWritesThePulseTrain : Prop :=
  decode 0x9000 = .command .convert ∧
    ∀ s : State,
      (∀ f, s.frame2 = some f → exec .convert s = .next { s with pt := some (pulses s.params f), seg := none }) ∧
        (s.frame2 = none → s.status.fault = false →
          exec .convert s = .next { s with status := { s.status with fault := true, err := .notReady } })

/-- R706: CONVERT without a frame, SYNTH without a train and TRANSMIT without segments raise NOT_READY and change nothing
else; SEND never raises it. -/
def Obligations.StageWithoutItsBufferIsNotReady : Prop :=
  ∀ (i : Instr) (s : State), s.status.fault = false →
    ((i = .convert ∧ s.frame2 = none) ∨ (i = .synth ∧ s.pt = none) ∨ (i = .transmit ∧ s.seg = none) →
      exec i s = .next { s with status := { s.status with fault := true, err := .notReady } }) ∧
      (s.status.err = .none → ∃ t, exec .send s = .next t ∧ t.status.err ≠ .notReady)

/-- R504: the index map of the pulse train, and the space of each bit of each byte of frame2. -/
def Obligations.PulseTrainIndexMap : Prop :=
  ∀ (p : Params) (f : Frame2),
    (pulses p f)[0] = p.timing.headerOn ∧ (pulses p f)[1] = p.timing.headerOff ∧
      (∀ i : Fin 70, (pulses p f)[2 + 2 * i.val] = p.timing.bitOn ∧
        (pulses p f)[3 + 2 * i.val] = if p.frame1[i] then p.timing.bit1Off else p.timing.bit0Off) ∧
      (pulses p f)[142] = p.timing.bitOn ∧ (pulses p f)[143] = p.timing.separatorOff ∧
      (pulses p f)[144] = p.timing.headerOn ∧ (pulses p f)[145] = p.timing.headerOff ∧
      (∀ j : Fin 152, (pulses p f)[146 + 2 * j.val] = p.timing.bitOn ∧
        (pulses p f)[147 + 2 * j.val] = if f[j] then p.timing.bit1Off else p.timing.bit0Off) ∧
      (pulses p f)[450] = p.timing.bitOn ∧
      ∀ (k : Fin 19) (i : Fin 8), (pulses p f)[147 + 16 * k.val + 2 * i.val] =
        if (frameByte f k)[i] then p.timing.bit1Off else p.timing.bit0Off

/-- R509: the sequencer form puts out the pulse train, element `k` at step `k`, and is done at 451. -/
def Obligations.SequencerPutsOutThePulseTrain : Prop :=
  ∀ (p : Params) (f : Frame2),
    sequencerOutputs p f = (pulses p f).toList ∧
      (∀ k : Fin 451, (phase k.val).output p f = some (pulses p f)[k]) ∧ phase 451 = .done

/-- R508: marks are HEADER_ON at 0 and 144 and BIT_ON elsewhere; spaces are HEADER_OFF at 1 and 145, SEPARATOR_OFF at 143
and a bit space elsewhere. -/
def Obligations.PulseTrainElementsByParity : Prop :=
  ∀ (p : Params) (f : Frame2) (k : Fin 451),
    (k.val % 2 = 0 → (pulses p f)[k] = if k.val = 0 ∨ k.val = 144 then p.timing.headerOn else p.timing.bitOn) ∧
      (k.val % 2 = 1 →
        if k.val = 1 ∨ k.val = 145 then (pulses p f)[k] = p.timing.headerOff
        else if k.val = 143 then (pulses p f)[k] = p.timing.separatorOff
        else (pulses p f)[k] = p.timing.bit0Off ∨ (pulses p f)[k] = p.timing.bit1Off)

/-! ## SYNTH, the carrier and the waveform -/

/-- R557, R708: SYNTH writes the segments of PT where they fit SEG_CAP, raises CAPACITY where they do not and NOT_READY
without a train, and changes nothing else. -/
def Obligations.SynthWritesTheSegments : Prop :=
  decode 0xA000 = .command .synth ∧
    ∀ s : State,
      (∀ p, s.pt = some p → (segments p).length ≤ s.params.segCap →
        exec .synth s = .next { s with seg := some (segments p) }) ∧
        (∀ p, s.pt = some p → s.params.segCap < (segments p).length → s.status.fault = false →
          exec .synth s = .next { s with status := { s.status with fault := true, err := .capacity } }) ∧
        (s.pt = none → s.status.fault = false →
          exec .synth s = .next { s with status := { s.status with fault := true, err := .notReady } })

/-- Derived from R554, R556, R557: the segments are, in index order, for an even `k` the whole 26 µs cycles of the mark, 8 µs
active then 18 µs idle each, and for an odd `k` one idle segment. Active before idle and the unmerged idle segments are
choices, the spec's decisions D14 and D16 (log 17). -/
def Obligations.SegmentsExpandMarksAndSpaces : Prop :=
  ∀ p : PulseTrain,
    segments p =
      (List.finRange 451).flatMap fun k =>
        if k.val % 2 = 0 then (List.replicate (p[k].toNat / 26) [⟨true, 8⟩, ⟨false, 18⟩]).flatten else [⟨false, p[k]⟩]

/-- Derived from R554, R555, R563: a mark of `d` µs gives `2 (d div 26)` segments that take `26 (d div 26)` µs, so `d mod 26`
µs are dropped, and a mark under 26 µs gives none, which is a choice, the spec's decision D16 (log 17). -/
def Obligations.MarkDropsItsRemainder : Prop :=
  ∀ d : Dur,
    (synthMark d).length = 2 * (d.toNat / 26) ∧ totalTime (synthMark d) = 26 * (d.toNat / 26) ∧
      totalTime (synthMark d) + d.toNat % 26 = d.toNat ∧ (d.toNat < 26 → synthMark d = [])

/-- R555, R815: over a whole train, of any durations, exactly the remainders of the marks are lost. -/
def Obligations.TrainLosesTheMarksRemainders : Prop :=
  ∀ p : PulseTrain,
    totalTime (segments p) + ((List.finRange 451).map fun k => if k.val % 2 = 0 then p[k].toNat % 26 else 0).sum =
      ((List.finRange 451).map fun k => p[k].toNat).sum

/-- Derived from R564: with the default timing constants, for every FRAME1 and FRAME2: 8377 segments, 214886 + 870 n1 µs, of
which 32608 µs are at level 1. The number of segments rests on the unmerged idle segments, a choice: the spec's decision D16
(log 17). -/
def Obligations.SegmentFiguresAtTheDefaults : Prop :=
  ∀ (p : Params) (f : Frame2), p.timing = Timing.default →
    (segments (pulses p f)).length = 8377 ∧
      totalTime (segments (pulses p f)) = 214886 + 870 * (p.frame1.toList.count true + f.toList.count true) ∧
      highTime (segments (pulses p f)) = 32608

/-- Derived from R558, R560: while segment `i` lasts the line has its level, after the last segment the line is low, and
inside the burst of a mark, wherever it starts, the line is high exactly in the first 8 µs of each 26. Active before idle, and
high for level 1 with a low line after the last segment, are choices, the spec's decisions D14 and D15 (log 17). -/
def Obligations.LineLevelOfAnEmission : Prop :=
  (∀ (l : List Segment) (t : Nat),
    (∀ i : Fin l.length, segStart l i.val ≤ t → t < segStart l i.val + l[i].dur.toNat → lineLevel l t = l[i].level) ∧
      (totalTime l ≤ t → lineLevel l t = false)) ∧
    ∀ (before after : List Segment) (d : Dur) (u : Nat), u < 26 * (d.toNat / 26) →
      (lineLevel (before ++ synthMark d ++ after) (totalTime before + u) = true ↔ u % 26 < 8)

/-! ## TRANSMIT and SEND -/

/-- R601, R602, R604: where the engine accepts, TRANSMIT hands it the output line and the whole of SEG, sets BUSY and TXRES =
NONE, and changes nothing else of the block. -/
def Obligations.TransmitAcceptedIsInFlight : Prop :=
  ∀ (s : State) (l : List Segment), s.seg = some l → s.engine.answer = .accept →
    ∃ t, exec .transmit s = .next t ∧ t.engine.handles = some ⟨s.params.outputLine, l⟩ ∧
      t.status = { s.status with busy := true, txres := .none } ∧ t.params = s.params ∧ t.st = s.st ∧
      t.frame2 = s.frame2 ∧ t.pt = s.pt ∧ t.seg = s.seg ∧ t.host = s.host ∧ t.engine.move = s.engine.move

/-- R603, R709: where the engine refuses, TRANSMIT sets TXRES = FAIL, raises no fault, emits nothing, and changes nothing
else of the block. -/
def Obligations.TransmitRefusedFails : Prop :=
  ∀ (s : State) (l : List Segment), s.seg = some l → s.engine.answer = .refuse →
    ∃ t, exec .transmit s = .next t ∧ t.status = { s.status with txres := .fail } ∧ (∀ τ, t.shownLevel τ = false) ∧
      t.engine.handles = s.engine.handles ∧ t.params = s.params ∧ t.st = s.st ∧ t.frame2 = s.frame2 ∧ t.pt = s.pt ∧
      t.seg = s.seg ∧ t.host = s.host ∧ t.engine.move = s.engine.move

/-- Derived from R605, R606: a completion report clears BUSY, releases the handles and sets TXRES to the result, whichever it
is; without a report the block stays busy, with the handles and TXRES as they are; nothing else of the block changes. That the
engine takes a step without a report is the model's choice (log 9). -/
def Obligations.CompletionEndsTheTransmission : Prop :=
  ∀ s : State, s.status.busy = true →
    ∃ t, step s = .next t ∧ t.params = s.params ∧ t.st = s.st ∧ t.frame2 = s.frame2 ∧ t.pt = s.pt ∧ t.seg = s.seg ∧
      t.host = s.host ∧
      match s.engine.move with
      | .emit _ => t.status = s.status ∧ t.engine.handles = s.engine.handles
      | .report .ok => t.status = { s.status with busy := false, txres := .ok } ∧ t.engine.handles = none
      | .report (.fail _) => t.status = { s.status with busy := false, txres := .fail } ∧ t.engine.handles = none

/-- Derived from R608: what the line shows when a transmission has ended: the emission is of the handed list on the handed
line, which in a coherent state are SEG and OUTPUT_LINE; on OK the whole waveform, on FAIL the waveform up to the point where
the emission broke off and then low, and after a refusal nothing. That a prefix is given by a number of µs, some of them shown
before the report, is the model's choice (log 11). -/
def Obligations.LineShowsTheWaveformOrAPrefix : Prop :=
  (∀ (s : State) (r : Request) (c : Completion),
    s.status.busy = true → s.engine.handles = some r → s.engine.move = .report c →
      ∃ t e, step s = .next t ∧ t.engine.emission = some e ∧ e.line = r.line ∧ e.segs = r.segs ∧
        (Coherent s → e.line = s.params.outputLine ∧ s.seg = some e.segs) ∧
        ∀ τ, t.shownLevel τ =
          match c with
          | .ok => lineLevel r.segs τ
          | .fail us => if τ < s.engine.shown + us then lineLevel r.segs τ else false) ∧
    ∀ (s : State) (l : List Segment), s.seg = some l → s.engine.answer = .refuse →
      ∃ t, exec .transmit s = .next t ∧ t.engine.emission = none ∧ ∀ τ, t.shownLevel τ = false

/-- R609: SEND, where the list fits and the engine accepts, leaves the frame of ST, its train and its segments, and the
request for them in flight. -/
def Obligations.SendPutsTheStateInFlight : Prop :=
  ∀ s : State,
    (segments (pulses s.params (frame2Of s.params.variant s.st))).length ≤ s.params.segCap →
    s.engine.answer = .accept →
      ∃ t, exec .send s = .next t ∧ t.frame2 = some (frame2Of s.params.variant s.st) ∧
        t.pt = some (pulses s.params (frame2Of s.params.variant s.st)) ∧
        t.seg = some (segments (pulses s.params (frame2Of s.params.variant s.st))) ∧
        t.engine.handles =
          some ⟨s.params.outputLine, segments (pulses s.params (frame2Of s.params.variant s.st))⟩ ∧
        t.status = { s.status with busy := true, txres := .none } ∧ t.st = s.st ∧ t.params = s.params ∧
        t.host = s.host ∧ t.engine.move = s.engine.move

/-- R609, R610: SEND is ENCODE, then CONVERT, then SYNTH, and then TRANSMIT unless SYNTH faulted; the writes of the earlier
steps stay, and no other fault than CAPACITY comes of it. -/
def Obligations.SendIsItsFourCommands : Prop :=
  decode 0xC000 = .command .send ∧
    ∀ s : State, s.status.fault = false →
      ∃ t1 t2 t3 t, exec .encode s = .next t1 ∧ exec .convert t1 = .next t2 ∧ exec .synth t2 = .next t3 ∧
        exec .send s = .next t ∧ exec .send s = (if t3.status.fault then .next t3 else exec .transmit t3) ∧
        (t.status.fault = true → t.status.err = .capacity)

/-- R610, R708: SEND over SEG_CAP raises CAPACITY with FRAME2 and PT written and SEG without a value; nothing is
requested. -/
def Obligations.SendOverCapacityKeepsFrameAndTrain : Prop :=
  ∀ s : State, s.status.fault = false →
    s.params.segCap < (segments (pulses s.params (frame2Of s.params.variant s.st))).length →
      exec .send s =
        .next { s with
          frame2 := some (frame2Of s.params.variant s.st)
          pt := some (pulses s.params (frame2Of s.params.variant s.st))
          seg := none
          status := { s.status with fault := true, err := .capacity } }

/-- R611: TRANSMIT and SEND never change ST; TRANSMIT never changes FRAME2, PT or SEG. -/
def Obligations.TransmitAndSendNeverChangeSt : Prop :=
  ∀ s : State,
    (∃ t, exec .send s = .next t ∧ t.st = s.st) ∧
      ∃ t, exec .transmit s = .next t ∧ t.st = s.st ∧ t.frame2 = s.frame2 ∧ t.pt = s.pt ∧ t.seg = s.seg

/-! ## STATUS, faults, ports, and rules of the whole machine -/

/-- R114, R702: in every state the STATUS word shows each field in its bits with its code, the reserved bits 7 and 15:12 are
zero, TXRES is not 3 and ERR is at most 5. -/
def Obligations.StatusWordHoldsOnlyProducedCodes : Prop :=
  ∀ s : State,
    s.statusWord.extractLsb' 0 1 = BitVec.ofBool s.status.busy ∧
      s.statusWord.extractLsb' 1 1 = (match s.frame2 with | none => 0 | some _ => 1) ∧
      s.statusWord.extractLsb' 2 1 = (match s.pt with | none => 0 | some _ => 1) ∧
      s.statusWord.extractLsb' 3 1 = (match s.seg with | none => 0 | some _ => 1) ∧
      s.statusWord.extractLsb' 4 2 = (match s.status.txres with | .none => 0 | .ok => 1 | .fail => 2) ∧
      s.statusWord.extractLsb' 6 1 = BitVec.ofBool s.status.fault ∧
      s.statusWord.extractLsb' 8 4 =
        (match s.status.err with
          | .none => 0
          | .domainViolation => 1
          | .frameLength => 2
          | .illegalCommand => 3
          | .notReady => 4
          | .capacity => 5) ∧
      s.statusWord &&& 0xF080 = 0 ∧ s.statusWord.extractLsb' 4 2 ≠ 3 ∧ (s.statusWord.extractLsb' 8 4).toNat ≤ 5

/-- R451, R501, R557, R601: the STATUS word after each stage that has what it needs: which bits it sets and clears, the rest
as before. -/
def Obligations.StatusWordAfterEachStage : Prop :=
  ∀ s : State,
    (∃ t, exec .encode s = .next t ∧ t.statusWord = (s.statusWord &&& ~~~(0x000E#16)) ||| 0x0002) ∧
      (∀ f, s.frame2 = some f →
        ∃ t, exec .convert s = .next t ∧ t.statusWord = (s.statusWord &&& ~~~(0x000C#16)) ||| 0x0004) ∧
      (∀ p, s.pt = some p → (segments p).length ≤ s.params.segCap →
        ∃ t, exec .synth s = .next t ∧ t.statusWord = s.statusWord ||| 0x0008) ∧
      (∀ l, s.seg = some l → s.engine.answer = .accept →
        ∃ t, exec .transmit s = .next t ∧ t.statusWord = (s.statusWord &&& ~~~(0x0031#16)) ||| 0x0001) ∧
      (∀ l, s.seg = some l → s.engine.answer = .refuse →
        ∃ t, exec .transmit s = .next t ∧ t.statusWord = (s.statusWord &&& ~~~(0x0030#16)) ||| 0x0020)

/-- R117, R705: FAULT and ERR keep the first fault through every step but reset. -/
def Obligations.FirstFaultStaysUntilReset : Prop :=
  ∀ s t : State, s.status.fault = true → step s = .next t → (s.status.busy = true ∨ s.host.head? ≠ some .reset) →
    t.status.fault = true ∧ t.status.err = s.status.err

/-- R103: ST changes only by a setter's word or by reset. -/
def Obligations.OnlySettersAndResetWriteSt : Prop :=
  ∀ s t : State, step s = .next t → t.st ≠ s.st →
    s.status.busy = false ∧
      (s.host.head? = some .reset ∨
        ∃ w i, s.host.head? = some (.word w) ∧ decode w = .command i ∧ i.inDomain = true ∧
          ((∃ v, i = .setpwr v) ∨ (∃ m, i = .setmode m) ∨ (∃ x, i = .settemp x) ∨ (∃ f, i = .setfan f) ∨
            (∃ d, i = .setdir d)))

/-- R116: TXRES changes only by TRANSMIT, SEND, a completion report of the engine while BUSY = 1, or reset. -/
def Obligations.OnlyTransmissionAndResetWriteTxres : Prop :=
  ∀ s t : State, step s = .next t → t.status.txres ≠ s.status.txres →
    (s.status.busy = true ∧ ∃ c, s.engine.move = .report c) ∨
      (s.status.busy = false ∧ s.host.head? = some .reset) ∨
      ∃ w, s.status.busy = false ∧ s.host.head? = some (.word w) ∧ (decode w = .command .transmit ∨ decode w = .command .send)

/-- R123, R211, R212: a host read of a buffer without a value returns none, and any other read returns the whole of the
register or buffer. That it does so also while a SEND is in flight is the model's choice (log 29). -/
def Obligations.PortsReadWholeBuffersOrNothing : Prop :=
  ∀ s : State,
    s.readPort .st = .ok (.word s.st.word) ∧ s.readPort .status = .ok (.word s.statusWord) ∧
      s.readPort .frame2 = (match s.frame2 with | none => .error (.invalidBuffer .frame2) | some f => .ok (.frame f)) ∧
      s.readPort .pt = (match s.pt with | none => .error (.invalidBuffer .pt) | some p => .ok (.train p)) ∧
      s.readPort .seg = (match s.seg with | none => .error (.invalidBuffer .seg) | some l => .ok (.segments l))

/-! ## The invariant -/

/-- R124: a newly built block is coherent. -/
def Obligations.NewBlockIsCoherent : Prop :=
  ∀ p : Params, Coherent (State.built p)

/-- R108, R111, R112, R113, R115, R117, R214, R469, R511, R608: from every coherent state, a step gives a coherent state. -/
def Obligations.StepKeepsCoherence : Prop :=
  ∀ s t : State, Coherent s → step s = .next t → Coherent t

/-- Derived from R111, R112, R113, R214, R464: in every run, whatever the host issues and the engine answers, a request in
flight is, on the block's output line, the whole expansion of a frame of some in-domain state, whose last byte is its checksum
(by wire values, a choice: the spec's decision D9, log 16). -/
def Obligations.EveryTransmissionIsAWholeFrame : Prop :=
  ∀ s : State, Reachable s → s.status.busy = true →
    ∃ st : ST,
      s.engine.handles =
          some ⟨s.params.outputLine, segments (pulses s.params (frame2Of s.params.variant st))⟩ ∧
        s.frame2 = some (frame2Of s.params.variant st) ∧
        wval8 (frameByte (frame2Of s.params.variant st) 18) =
          ((List.finRange 18).map fun k =>
            wval8 (frameByte (frame2Of s.params.variant st) (k.castLE (by omega)))).sum % 256

/-- Derived from R111, R112, R113, R214, R464, R602: in every coherent state with BUSY = 1, the request in flight and the
emission are, on the block's output line, of the whole expansion of a frame of some in-domain state, the one in FRAME2, whose
last byte is its checksum (by wire values, a choice: the spec's decision D9, log 16). -/
def Obligations.CoherentBusyBlockEmitsAWholeFrame : Prop :=
  ∀ s : State, Coherent s → s.status.busy = true →
    ∃ (st : ST) (n : Nat),
      s.engine.handles =
          some ⟨s.params.outputLine, segments (pulses s.params (frame2Of s.params.variant st))⟩ ∧
        s.engine.emission =
          some ⟨s.params.outputLine, segments (pulses s.params (frame2Of s.params.variant st)), n⟩ ∧
        s.frame2 = some (frame2Of s.params.variant st) ∧
        wval8 (frameByte (frame2Of s.params.variant st) 18) =
          ((List.finRange 18).map fun k =>
            wval8 (frameByte (frame2Of s.params.variant st) (k.castLE (by omega)))).sum % 256

/-! ## The emission in flight -/

/-- Derived from R726 with R560: with an accepted request the emission of the whole list on the output line begins, with
nothing shown yet; and in a coherent state with BUSY = 1 every step of the engine shows, on the output line, the waveform of
SEG from its start, at least as far as before and with that part unchanged, and never more than there is: `us` µs farther while
it goes on, the whole of it when it reports OK. How far a step goes is the model's choice, a free number of µs (log 9, 11). -/
def Obligations.LineShowsAGrowingPrefixWhileBusy : Prop :=
  (∀ (s : State) (l : List Segment), s.seg = some l → s.engine.answer = .accept →
    ∃ t, exec .transmit s = .next t ∧ t.engine.emission = some ⟨s.params.outputLine, l, 0⟩) ∧
    ∀ s : State, Coherent s → s.status.busy = true →
      ∃ (t : State) (e e' : Emission), step s = .next t ∧ s.engine.emission = some e ∧ t.engine.emission = some e' ∧
        e'.line = s.params.outputLine ∧ s.seg = some e'.segs ∧ e.shown ≤ e'.shown ∧ e'.shown ≤ totalTime e'.segs ∧
        (∀ τ, t.shownLevel τ = if τ < e'.shown then lineLevel e'.segs τ else false) ∧
        (∀ τ, τ < e.shown → t.shownLevel τ = s.shownLevel τ) ∧
        (∀ us, s.engine.move = .emit us → e'.shown = min (e.shown + us) (totalTime e'.segs)) ∧
        (s.engine.move = .report .ok → e'.shown = totalTime e'.segs)
end

