-- ==== Sys2Proof/Laws/Bits.lean ====
section
/-! SUPPORT. The character-level facts about the string primitives (R15) and the operand codes (R104). -/

namespace Sys2Proof.Machine

@[simp] theorem bin8_getElem (v : BitVec 8) (i : Nat) (h : i < 8) : (bin8 v)[i] = v.getLsbD (7 - i) := by
  simp [bin8]

@[simp] theorem rev8_getElem (s : ByteStr) (i : Nat) (h : i < 8) : (rev8 s)[i] = s[7 - i] := by
  simp [rev8]

/-- `rev8` undoes itself (R15). -/
@[simp] theorem rev8_rev8 (s : ByteStr) : rev8 (rev8 s) = s := by
  ext i h
  simp only [rev8_getElem]
  congr 1
  omega

/-- `val8 (bin8 v) = v` (R15). -/
@[simp] theorem val8_bin8 (v : BitVec 8) : val8 (bin8 v) = v.toNat := by
  revert v; decide

/-- `wval8 (rev8 (bin8 v)) = v` (R15). -/
@[simp] theorem wval8_rev8_bin8 (v : BitVec 8) : wval8 (rev8 (bin8 v)) = v.toNat := by
  simp [wval8]

theorem concatBytes_cons (b : ByteStr) (bs : List ByteStr) : concatBytes (b :: bs) = b.toList ++ concatBytes bs := rfl

@[simp] theorem frame2Of_toList (v : Variant) (st : ST) : (frame2Of v st).toList = concatBytes (frameBytes v st) := rfl

end Sys2Proof.Machine
end

