-- ==== Sys2Proof/Laws/Flags.lean ====
section
/-! SUPPORT. The port words as sums of their fields at their weights (R104, R114), and the operand codes read back
(R304). -/

namespace Sys2Proof.Machine

theorem append_toNat {m n : Nat} (a : BitVec m) (b : BitVec n) : (a ++ b).toNat = a.toNat * 2 ^ n + b.toNat := by
  rw [BitVec.toNat_append, ← Nat.shiftLeft_add_eq_or_of_lt b.isLt, Nat.shiftLeft_eq]

/-- The ST word, field by field (R104). -/
theorem ST.word_toNat (st : ST) :
    st.word.toNat =
      st.power.toNat + 2 * st.mode.code.toNat + 8 * st.temp.deg.toNat + 256 * (Fan.code st.fan).toNat +
        2048 * st.dir.code.toNat := by
  unfold ST.word
  simp only [append_toNat, BitVec.toNat_ofBool, BitVec.toNat_ofNat]
  omega

/-- The STATUS word, field by field (R114). -/
theorem State.statusWord_toNat (s : State) :
    s.statusWord.toNat =
      s.status.busy.toNat + 2 * s.frame2Valid.toNat + 4 * s.ptValid.toNat + 8 * s.segValid.toNat +
        16 * s.status.txres.code.toNat + 64 * s.status.fault.toNat + 256 * s.status.err.code.toNat := by
  unfold State.statusWord
  simp only [append_toNat, BitVec.toNat_ofBool, BitVec.toNat_ofNat]
  omega

/-- A mode's code reads back as the mode (R304). -/
@[simp] theorem Mode.ofCode?_code (m : Mode) : Mode.ofCode? m.code = some m := by cases m <;> rfl

/-- A direction's code reads back as the direction (R304). -/
@[simp] theorem Dir.ofCode?_code (d : Dir) : Dir.ofCode? d.code = some d := by cases d <;> rfl

/-- A fan code reads back (R304). -/
@[simp] theorem Fan.ofCode?_code (f : Fan) : Fan.ofCode? (Fan.code f) = some f := by revert f; decide

/-- A held temperature reads back (R304). -/
@[simp] theorem Temp.ofCode?_deg (t : Temp) : Temp.ofCode? t.deg = some t := by
  unfold Temp.ofCode?
  rw [dif_pos t.inRange]

/-- What a mode operand stands for has that code, and only M = 3 stands for none (R304, R306). -/
theorem Mode.ofCode?_spec (m : BitVec 2) :
    (∃ x : Mode, Mode.ofCode? m = some x ∧ x.code = m) ∨ (Mode.ofCode? m = none ∧ m = 3) := by
  have h : ∀ m : BitVec 2, (Mode.ofCode? m).map Mode.code = some m ∨ (Mode.ofCode? m = none ∧ m = 3) := by decide
  rcases h m with h | h
  · exact .inl (Option.map_eq_some_iff.mp h)
  · exact .inr h

/-- What a temperature operand stands for has that value, and only 0 to 15 and 31 stand for none (R304, R306). -/
theorem Temp.ofCode?_spec (t : BitVec 5) :
    (∃ x : Temp, Temp.ofCode? t = some x ∧ x.deg = t) ∨
      (Temp.ofCode? t = none ∧ ¬(16 ≤ t.toNat ∧ t.toNat ≤ 30)) := by
  unfold Temp.ofCode?
  split
  · exact .inl ⟨_, rfl, rfl⟩
  · exact .inr ⟨rfl, ‹_›⟩

/-- What a fan operand stands for has that code, and only 6 and 7 stand for none (R304, R306). -/
theorem Fan.ofCode?_spec (f : BitVec 3) :
    (∃ x : Fan, Fan.ofCode? f = some x ∧ Fan.code x = f) ∨ (Fan.ofCode? f = none ∧ 5 < f.toNat) := by
  have h : ∀ f : BitVec 3, (Fan.ofCode? f).map Fan.code = some f ∨ (Fan.ofCode? f = none ∧ 5 < f.toNat) := by decide
  rcases h f with h | h
  · exact .inl (Option.map_eq_some_iff.mp h)
  · exact .inr h

/-- What a direction operand stands for has that code, and only 6 and 7 stand for none (R304, R306). -/
theorem Dir.ofCode?_spec (d : BitVec 3) :
    (∃ x : Dir, Dir.ofCode? d = some x ∧ x.code = d) ∨ (Dir.ofCode? d = none ∧ 5 < d.toNat) := by
  have h : ∀ d : BitVec 3, (Dir.ofCode? d).map Dir.code = some d ∨ (Dir.ofCode? d = none ∧ 5 < d.toNat) := by decide
  rcases h d with h | h
  · exact .inl (Option.map_eq_some_iff.mp h)
  · exact .inr h

end Sys2Proof.Machine
end

