-- ==== Sys2Proof/Laws/State.lean ====
section
/-! SUPPORT. One lemma per field per update of the state, each true by rfl, so that no later proof unfolds a record
update. -/

namespace Sys2Proof.Machine

@[simp] theorem State.assertReset_params (s : State) : s.assertReset.params = s.params := rfl
@[simp] theorem State.assertReset_st (s : State) : s.assertReset.st = ST.reset := rfl
@[simp] theorem State.assertReset_frame2 (s : State) : s.assertReset.frame2 = none := rfl
@[simp] theorem State.assertReset_pt (s : State) : s.assertReset.pt = none := rfl
@[simp] theorem State.assertReset_seg (s : State) : s.assertReset.seg = none := rfl
@[simp] theorem State.assertReset_status (s : State) : s.assertReset.status = Status.reset := rfl
@[simp] theorem State.assertReset_engine (s : State) : s.assertReset.engine = { s.engine with handles := none } := rfl
@[simp] theorem State.assertReset_host (s : State) : s.assertReset.host = s.host := rfl

@[simp] theorem State.setSt_params (x : ST) (s : State) : (s.setSt x).params = s.params := rfl
@[simp] theorem State.setSt_st (x : ST) (s : State) : (s.setSt x).st = x := rfl
@[simp] theorem State.setSt_frame2 (x : ST) (s : State) : (s.setSt x).frame2 = s.frame2 := rfl
@[simp] theorem State.setSt_pt (x : ST) (s : State) : (s.setSt x).pt = s.pt := rfl
@[simp] theorem State.setSt_seg (x : ST) (s : State) : (s.setSt x).seg = s.seg := rfl
@[simp] theorem State.setSt_status (x : ST) (s : State) : (s.setSt x).status = s.status := rfl
@[simp] theorem State.setSt_engine (x : ST) (s : State) : (s.setSt x).engine = s.engine := rfl
@[simp] theorem State.setSt_host (x : ST) (s : State) : (s.setSt x).host = s.host := rfl

@[simp] theorem State.putFrame2_params (f : Frame2) (s : State) : (s.putFrame2 f).params = s.params := rfl
@[simp] theorem State.putFrame2_st (f : Frame2) (s : State) : (s.putFrame2 f).st = s.st := rfl
@[simp] theorem State.putFrame2_frame2 (f : Frame2) (s : State) : (s.putFrame2 f).frame2 = some f := rfl
@[simp] theorem State.putFrame2_pt (f : Frame2) (s : State) : (s.putFrame2 f).pt = none := rfl
@[simp] theorem State.putFrame2_seg (f : Frame2) (s : State) : (s.putFrame2 f).seg = none := rfl
@[simp] theorem State.putFrame2_status (f : Frame2) (s : State) : (s.putFrame2 f).status = s.status := rfl
@[simp] theorem State.putFrame2_engine (f : Frame2) (s : State) : (s.putFrame2 f).engine = s.engine := rfl
@[simp] theorem State.putFrame2_host (f : Frame2) (s : State) : (s.putFrame2 f).host = s.host := rfl

@[simp] theorem State.putPt_params (p : PulseTrain) (s : State) : (s.putPt p).params = s.params := rfl
@[simp] theorem State.putPt_st (p : PulseTrain) (s : State) : (s.putPt p).st = s.st := rfl
@[simp] theorem State.putPt_frame2 (p : PulseTrain) (s : State) : (s.putPt p).frame2 = s.frame2 := rfl
@[simp] theorem State.putPt_pt (p : PulseTrain) (s : State) : (s.putPt p).pt = some p := rfl
@[simp] theorem State.putPt_seg (p : PulseTrain) (s : State) : (s.putPt p).seg = none := rfl
@[simp] theorem State.putPt_status (p : PulseTrain) (s : State) : (s.putPt p).status = s.status := rfl
@[simp] theorem State.putPt_engine (p : PulseTrain) (s : State) : (s.putPt p).engine = s.engine := rfl
@[simp] theorem State.putPt_host (p : PulseTrain) (s : State) : (s.putPt p).host = s.host := rfl

@[simp] theorem State.putSeg_params (l : List Segment) (s : State) : (s.putSeg l).params = s.params := rfl
@[simp] theorem State.putSeg_st (l : List Segment) (s : State) : (s.putSeg l).st = s.st := rfl
@[simp] theorem State.putSeg_frame2 (l : List Segment) (s : State) : (s.putSeg l).frame2 = s.frame2 := rfl
@[simp] theorem State.putSeg_pt (l : List Segment) (s : State) : (s.putSeg l).pt = s.pt := rfl
@[simp] theorem State.putSeg_seg (l : List Segment) (s : State) : (s.putSeg l).seg = some l := rfl
@[simp] theorem State.putSeg_status (l : List Segment) (s : State) : (s.putSeg l).status = s.status := rfl
@[simp] theorem State.putSeg_engine (l : List Segment) (s : State) : (s.putSeg l).engine = s.engine := rfl
@[simp] theorem State.putSeg_host (l : List Segment) (s : State) : (s.putSeg l).host = s.host := rfl

@[simp] theorem State.acceptRequest_params (l : List Segment) (s : State) : (s.acceptRequest l).params = s.params := rfl
@[simp] theorem State.acceptRequest_st (l : List Segment) (s : State) : (s.acceptRequest l).st = s.st := rfl
@[simp] theorem State.acceptRequest_frame2 (l : List Segment) (s : State) : (s.acceptRequest l).frame2 = s.frame2 := rfl
@[simp] theorem State.acceptRequest_pt (l : List Segment) (s : State) : (s.acceptRequest l).pt = s.pt := rfl
@[simp] theorem State.acceptRequest_seg (l : List Segment) (s : State) : (s.acceptRequest l).seg = s.seg := rfl
@[simp] theorem State.acceptRequest_status (l : List Segment) (s : State) : (s.acceptRequest l).status = { s.status with busy := true, txres := .none } := rfl
@[simp] theorem State.acceptRequest_engine (l : List Segment) (s : State) : (s.acceptRequest l).engine = { s.engine.drawAnswer with handles := some ⟨s.params.outputLine, l⟩, emission := some ⟨s.params.outputLine, l, 0⟩ } := rfl
@[simp] theorem State.acceptRequest_host (l : List Segment) (s : State) : (s.acceptRequest l).host = s.host := rfl

@[simp] theorem State.refuseRequest_params (s : State) : s.refuseRequest.params = s.params := rfl
@[simp] theorem State.refuseRequest_st (s : State) : s.refuseRequest.st = s.st := rfl
@[simp] theorem State.refuseRequest_frame2 (s : State) : s.refuseRequest.frame2 = s.frame2 := rfl
@[simp] theorem State.refuseRequest_pt (s : State) : s.refuseRequest.pt = s.pt := rfl
@[simp] theorem State.refuseRequest_seg (s : State) : s.refuseRequest.seg = s.seg := rfl
@[simp] theorem State.refuseRequest_status (s : State) : s.refuseRequest.status = { s.status with txres := .fail } := rfl
@[simp] theorem State.refuseRequest_engine (s : State) : s.refuseRequest.engine = { s.engine.drawAnswer with emission := none } := rfl
@[simp] theorem State.refuseRequest_host (s : State) : s.refuseRequest.host = s.host := rfl

@[simp] theorem State.complete_params (c : Completion) (s : State) : (s.complete c).params = s.params := rfl
@[simp] theorem State.complete_st (c : Completion) (s : State) : (s.complete c).st = s.st := rfl
@[simp] theorem State.complete_frame2 (c : Completion) (s : State) : (s.complete c).frame2 = s.frame2 := rfl
@[simp] theorem State.complete_pt (c : Completion) (s : State) : (s.complete c).pt = s.pt := rfl
@[simp] theorem State.complete_seg (c : Completion) (s : State) : (s.complete c).seg = s.seg := rfl
@[simp] theorem State.complete_status (c : Completion) (s : State) : (s.complete c).status = { s.status with busy := false, txres := completionTxres c } := rfl
@[simp] theorem State.complete_engine (c : Completion) (s : State) : (s.complete c).engine =
      { (s.engine.drive (.report c)).drawMove with handles := none } := rfl
@[simp] theorem State.complete_host (c : Completion) (s : State) : (s.complete c).host = s.host := rfl

@[simp] theorem State.emit_params (us : Nat) (s : State) : (s.emit us).params = s.params := rfl
@[simp] theorem State.emit_st (us : Nat) (s : State) : (s.emit us).st = s.st := rfl
@[simp] theorem State.emit_frame2 (us : Nat) (s : State) : (s.emit us).frame2 = s.frame2 := rfl
@[simp] theorem State.emit_pt (us : Nat) (s : State) : (s.emit us).pt = s.pt := rfl
@[simp] theorem State.emit_seg (us : Nat) (s : State) : (s.emit us).seg = s.seg := rfl
@[simp] theorem State.emit_status (us : Nat) (s : State) : (s.emit us).status = s.status := rfl
@[simp] theorem State.emit_engine (us : Nat) (s : State) : (s.emit us).engine = (s.engine.drive (.emit us)).drawMove := rfl
@[simp] theorem State.emit_host (us : Nat) (s : State) : (s.emit us).host = s.host := rfl

@[simp] theorem State.deliver_params (w : Word) (s : State) : (s.deliver w).params = s.params := rfl
@[simp] theorem State.deliver_st (w : Word) (s : State) : (s.deliver w).st = s.st := rfl
@[simp] theorem State.deliver_frame2 (w : Word) (s : State) : (s.deliver w).frame2 = s.frame2 := rfl
@[simp] theorem State.deliver_pt (w : Word) (s : State) : (s.deliver w).pt = s.pt := rfl
@[simp] theorem State.deliver_seg (w : Word) (s : State) : (s.deliver w).seg = s.seg := rfl
@[simp] theorem State.deliver_status (w : Word) (s : State) : (s.deliver w).status = s.status := rfl
@[simp] theorem State.deliver_engine (w : Word) (s : State) : (s.deliver w).engine = s.engine := rfl
@[simp] theorem State.deliver_host (w : Word) (s : State) : (s.deliver w).host = .word w :: s.host := rfl

@[simp] theorem State.raise_params (e : ErrCode) (s : State) : (s.raise e).params = s.params := by
  unfold State.raise; split <;> rfl
@[simp] theorem State.raise_st (e : ErrCode) (s : State) : (s.raise e).st = s.st := by
  unfold State.raise; split <;> rfl
@[simp] theorem State.raise_frame2 (e : ErrCode) (s : State) : (s.raise e).frame2 = s.frame2 := by
  unfold State.raise; split <;> rfl
@[simp] theorem State.raise_pt (e : ErrCode) (s : State) : (s.raise e).pt = s.pt := by
  unfold State.raise; split <;> rfl
@[simp] theorem State.raise_seg (e : ErrCode) (s : State) : (s.raise e).seg = s.seg := by
  unfold State.raise; split <;> rfl
@[simp] theorem State.raise_engine (e : ErrCode) (s : State) : (s.raise e).engine = s.engine := by
  unfold State.raise; split <;> rfl
@[simp] theorem State.raise_host (e : ErrCode) (s : State) : (s.raise e).host = s.host := by
  unfold State.raise; split <;> rfl

/-- The first fault is recorded (R705). -/
theorem State.raise_status_of_safe (e : ErrCode) (s : State) (h : s.status.fault = false) :
    (s.raise e).status = { s.status with err := e, fault := true } := by simp [State.raise, h]

/-- A later fault writes nothing (R705, R712). -/
theorem State.raise_of_fault (e : ErrCode) (s : State) (h : s.status.fault = true) : s.raise e = s := by
  simp [State.raise, h]

@[simp] theorem State.raise_fault (e : ErrCode) (s : State) : (s.raise e).status.fault = true := by
  unfold State.raise; split <;> simp_all

@[simp] theorem State.raise_busy (e : ErrCode) (s : State) : (s.raise e).status.busy = s.status.busy := by
  unfold State.raise; split <;> rfl

@[simp] theorem State.raise_txres (e : ErrCode) (s : State) : (s.raise e).status.txres = s.status.txres := by
  unfold State.raise; split <;> rfl

@[simp] theorem Engine.drawAnswer_handles (g : Engine) : g.drawAnswer.handles = g.handles := rfl
@[simp] theorem Engine.drawAnswer_emission (g : Engine) : g.drawAnswer.emission = g.emission := rfl
@[simp] theorem Engine.drawAnswer_answer (g : Engine) : g.drawAnswer.answer = Config.engineAnswer g.draws := rfl
@[simp] theorem Engine.drawAnswer_move (g : Engine) : g.drawAnswer.move = g.move := rfl
@[simp] theorem Engine.drawAnswer_draws (g : Engine) : g.drawAnswer.draws = g.draws + 1 := rfl
@[simp] theorem Engine.drawMove_handles (g : Engine) : g.drawMove.handles = g.handles := rfl
@[simp] theorem Engine.drawMove_emission (g : Engine) : g.drawMove.emission = g.emission := rfl
@[simp] theorem Engine.drawMove_answer (g : Engine) : g.drawMove.answer = g.answer := rfl
@[simp] theorem Engine.drawMove_move (g : Engine) : g.drawMove.move = Config.engineMove g.draws := rfl
@[simp] theorem Engine.drawMove_draws (g : Engine) : g.drawMove.draws = g.draws + 1 := rfl

@[simp] theorem Engine.drive_handles (m : EngineMove) (g : Engine) : (g.drive m).handles = g.handles := rfl
@[simp] theorem Engine.drive_emission (m : EngineMove) (g : Engine) :
    (g.drive m).emission = g.handles.map fun h => ⟨h.line, h.segs, moveReach m g.shown h.segs⟩ := rfl
@[simp] theorem Engine.drive_answer (m : EngineMove) (g : Engine) : (g.drive m).answer = g.answer := rfl
@[simp] theorem Engine.drive_move (m : EngineMove) (g : Engine) : (g.drive m).move = g.move := rfl
@[simp] theorem Engine.drive_draws (m : EngineMove) (g : Engine) : (g.drive m).draws = g.draws := rfl

/-- A move never shows more than the waveform (R608). -/
theorem moveReach_le (m : EngineMove) (n : Nat) (l : List Segment) : moveReach m n l ≤ totalTime l := by
  rcases m with us | (_ | us) <;> simp [moveReach]

/-- A move never takes back what the line has shown (R726). -/
theorem le_moveReach (m : EngineMove) (n : Nat) (l : List Segment) (h : n ≤ totalTime l) : n ≤ moveReach m n l := by
  rcases m with us | (_ | us) <;> simp [moveReach] <;> omega

@[simp] theorem Performed.state_done (s : State) : (Performed.done s).state = s := rfl
@[simp] theorem Performed.state_faulted (s : State) : (Performed.faulted s).state = s := rfl
@[simp] theorem Performed.andThen_done (s : State) (f : State → Performed) : (Performed.done s).andThen f = f s := rfl
@[simp] theorem Performed.andThen_faulted (s : State) (f : State → Performed) :
    (Performed.faulted s).andThen f = .faulted s := rfl
@[simp] theorem Performed.outcome_eq (p : Performed) : p.outcome = .next p.state := rfl

end Sys2Proof.Machine
end

