-- ==== Sys2Proof/Laws/Ops.lean ====
section
/-! SUPPORT. For each shared operation, what it can do, said once: a setter's body, the four steps of the pipeline, the
engine's move, whose move it is, and one step. Proofs cite these instead of unfolding. -/

namespace Sys2Proof.Machine

/-- A setter either writes its field or takes the fault (R402 to R406, R703). -/
theorem setField_state {α : Type} (value? : Option α) (upd : α → ST) (s : State) :
    (∃ x, value? = some x ∧ (setField value? upd s).state = s.setSt (upd x)) ∨
      (value? = none ∧ (setField value? upd s).state = s.raise .domainViolation) := by
  cases value? with
  | none => exact .inr ⟨rfl, rfl⟩
  | some x => exact .inl ⟨x, rfl, rfl⟩

/-- CONVERT's step (R501): without a frame NOT_READY, else PT is written. -/
theorem convertStep_state (s : State) :
    (s.frame2 = none ∧ s.convertStep = .faulted (s.raise .notReady)) ∨
      (∃ f, s.frame2 = some f ∧ s.convertStep = .done (s.putPt (pulses s.params f))) := by
  unfold State.convertStep
  cases h : s.frame2 with
  | none => exact .inl ⟨rfl, rfl⟩
  | some f => exact .inr ⟨f, rfl, rfl⟩

/-- SYNTH's step (R557): without a train NOT_READY, over SEG_CAP CAPACITY, else SEG is written. -/
theorem synthStep_state (s : State) :
    (s.pt = none ∧ s.synthStep = .faulted (s.raise .notReady)) ∨
      (∃ p, s.pt = some p ∧ s.params.segCap < (segments p).length ∧ s.synthStep = .faulted (s.raise .capacity)) ∨
      (∃ p, s.pt = some p ∧ (segments p).length ≤ s.params.segCap ∧ s.synthStep = .done (s.putSeg (segments p))) := by
  unfold State.synthStep
  cases h : s.pt with
  | none => exact .inl ⟨rfl, rfl⟩
  | some p =>
    by_cases hc : s.params.segCap < (segments p).length
    · exact .inr (.inl ⟨p, rfl, hc, if_pos hc⟩)
    · exact .inr (.inr ⟨p, rfl, Nat.le_of_not_lt hc, if_neg hc⟩)

/-- TRANSMIT's step (R601): without segments NOT_READY, else the engine accepts or refuses. -/
theorem transmitStep_state (s : State) :
    (s.seg = none ∧ s.transmitStep = .faulted (s.raise .notReady)) ∨
      (∃ l, s.seg = some l ∧ s.engine.answer = .accept ∧ s.transmitStep = .done (s.acceptRequest l)) ∨
      (∃ l, s.seg = some l ∧ s.engine.answer = .refuse ∧ s.transmitStep = .done s.refuseRequest) := by
  unfold State.transmitStep
  cases h : s.seg with
  | none => exact .inl ⟨rfl, rfl⟩
  | some l =>
    cases ha : s.engine.answer with
    | accept => exact .inr (.inl ⟨l, rfl, rfl, rfl⟩)
    | refuse => exact .inr (.inr ⟨l, rfl, rfl, rfl⟩)

/-- The frame SEND and ENCODE make of a state. -/
abbrev State.frameNow (s : State) : Frame2 := frame2Of s.params.variant s.st

/-- The pulse train SEND makes of a state. -/
abbrev State.trainNow (s : State) : PulseTrain := pulses s.params s.frameNow

/-- SEND (R609, R610): over SEG_CAP it faults with the frame and the train written; else it takes TRANSMIT's step with all
three buffers written. -/
theorem execSend_cases (s : State) :
    (s.params.segCap < (segments s.trainNow).length ∧
      execSend s = .next (((s.putFrame2 s.frameNow).putPt s.trainNow).raise .capacity)) ∨
    ((segments s.trainNow).length ≤ s.params.segCap ∧
      execSend s =
        (((s.putFrame2 s.frameNow).putPt s.trainNow).putSeg (segments s.trainNow)).transmitStep.outcome) := by
  have hs : execSend s =
      (((s.putFrame2 s.frameNow).putPt s.trainNow).synthStep.andThen State.transmitStep).outcome := rfl
  rcases synthStep_state ((s.putFrame2 s.frameNow).putPt s.trainNow) with ⟨h, _⟩ | ⟨p, hp, hl, h⟩ | ⟨p, hp, hl, h⟩
  · simp at h
  · obtain rfl : s.trainNow = p := by simpa using hp
    exact .inl ⟨hl, by rw [hs, h]; rfl⟩
  · obtain rfl : s.trainNow = p := by simpa using hp
    exact .inr ⟨hl, by rw [hs, h]; rfl⟩

/-- The engine's move while BUSY = 1 goes on with the emission or completes it (R605, R726, R727). -/
theorem engineMove_cases (s : State) :
    (∃ us, s.engine.move = .emit us ∧ s.engineMove = s.emit us) ∨
      (∃ c, s.engine.move = .report c ∧ s.engineMove = s.complete c) := by
  unfold State.engineMove
  cases h : s.engine.move with
  | emit us => exact .inl ⟨us, rfl, rfl⟩
  | report c => exact .inr ⟨c, rfl, rfl⟩

/-- Whatever its move, the line then shows, of the request in flight and on its line, as far as that move goes (R726). -/
theorem engineMove_emission (s : State) :
    s.engineMove.engine.emission =
      s.engine.handles.map fun h => ⟨h.line, h.segs, moveReach s.engine.move s.engine.shown h.segs⟩ := by
  rcases engineMove_cases s with ⟨us, h1, h2⟩ | ⟨c, h1, h2⟩ <;> rw [h1, h2] <;> rfl

/-- An accepted word is ignored, illegal, or performed (R401). -/
theorem acceptWord_cases (w : Word) (s : State) :
    (s.status.fault = true ∧ acceptWord w s = .next s) ∨
      (s.status.fault = false ∧ ∃ why, decode w = .illegal why ∧ acceptWord w s = .next (s.raise .illegalCommand)) ∨
      (s.status.fault = false ∧ ∃ i, decode w = .command i ∧ acceptWord w s = exec i s) := by
  unfold acceptWord
  cases hf : s.status.fault with
  | true => exact .inl ⟨rfl, if_pos rfl⟩
  | false =>
    cases hd : decode w with
    | illegal why => exact .inr (.inl ⟨rfl, why, rfl, by simp⟩)
    | command i => exact .inr (.inr ⟨rfl, i, rfl, by simp⟩)

/-- Everything one step can do: the engine moves, a word is accepted, reset is asserted, or nobody has a move (R401, R718,
R801). -/
theorem step_cases (s : State) :
    (s.status.busy = true ∧ step s = .next s.engineMove) ∨
      (s.status.busy = false ∧ ∃ w rest, s.host = .word w :: rest ∧ step s = acceptWord w { s with host := rest }) ∨
      (s.status.busy = false ∧ ∃ rest, s.host = .reset :: rest ∧
        step s = .next (State.assertReset { s with host := rest })) ∨
      (s.status.busy = false ∧ s.host = [] ∧ step s = .refused .noHostMove) := by
  unfold step State.nextMove
  cases hb : s.status.busy with
  | true => exact .inl ⟨rfl, rfl⟩
  | false =>
    cases hh : s.host with
    | nil => exact .inr (.inr (.inr ⟨rfl, rfl, rfl⟩))
    | cons m rest =>
      cases m with
      | word w => exact .inr (.inl ⟨rfl, w, rest, rfl, rfl⟩)
      | reset => exact .inr (.inr (.inl ⟨rfl, rest, rfl, rfl⟩))

/-- A delivered word is the host's next move (log 26). -/
theorem nextMove_deliver (w : Word) (s : State) (h : s.status.busy = false) :
    (s.deliver w).nextMove = .word w s := by
  unfold State.nextMove State.deliver
  simp only [h]

/-- A port of a buffer without a value returns no value (R123). -/
@[simp] theorem bufferPort_none {α : Type} (p : Port) (wrap : α → PortValue) :
    bufferPort p wrap none = .error (.invalidBuffer p) := rfl

/-- A port of a buffer with a value returns the whole of it (R211). -/
@[simp] theorem bufferPort_some {α : Type} (p : Port) (wrap : α → PortValue) (x : α) :
    bufferPort p wrap (some x) = .ok (wrap x) := rfl

end Sys2Proof.Machine
end

