-- ==== Sys2Proof/Laws/PerInstr.lean ====
section
/-! SUPPORT. Facts made per instruction: each command's word carries the fixed bits of its row of the opcode table
(spec/opcode_table.json, "match" and "mask", the table of R302). -/

namespace Sys2Proof.Laws

/-- A row's mask and match in spec/opcode_table.json. -/
def tableRow : Instr → Word × Word
  | .setpwr _ => (0xFFFE, 0x1000)
  | .setmode _ => (0xFFFC, 0x2000)
  | .settemp _ => (0xFFE0, 0x3000)
  | .setfan _ => (0xFFF8, 0x4000)
  | .setdir _ => (0xFFF8, 0x5000)
  | .encode => (0xFFFF, 0x8000)
  | .convert => (0xFFFF, 0x9000)
  | .synth => (0xFFFF, 0xA000)
  | .transmit => (0xFFFF, 0xB000)
  | .send => (0xFFFF, 0xC000)

/-- The word of `i` has the fixed bits of its table row. -/
def FixedBits.Statement (i : Instr) : Prop := encode i &&& (tableRow i).1 = (tableRow i).2

theorem FixedBits.setpwr (v : BitVec 1) : FixedBits.Statement (.setpwr v) := by revert v; unfold Statement; decide
theorem FixedBits.setmode (m : BitVec 2) : FixedBits.Statement (.setmode m) := by revert m; unfold Statement; decide
theorem FixedBits.settemp (t : BitVec 5) : FixedBits.Statement (.settemp t) := by revert t; unfold Statement; decide
theorem FixedBits.setfan (f : BitVec 3) : FixedBits.Statement (.setfan f) := by revert f; unfold Statement; decide
theorem FixedBits.setdir (d : BitVec 3) : FixedBits.Statement (.setdir d) := by revert d; unfold Statement; decide
theorem FixedBits.encode : FixedBits.Statement .encode := by unfold Statement; decide
theorem FixedBits.convert : FixedBits.Statement .convert := by unfold Statement; decide
theorem FixedBits.synth : FixedBits.Statement .synth := by unfold Statement; decide
theorem FixedBits.transmit : FixedBits.Statement .transmit := by unfold Statement; decide
theorem FixedBits.send : FixedBits.Statement .send := by unfold Statement; decide

end Sys2Proof.Laws
end

