-- ==== Sys2Proof/Laws/Pulse.lean ====
section
/-! SUPPORT. The shape of the pulse train (R502 to R505), of the carrier expansion (R554 to R557) and of the waveform (R558,
R560). -/

namespace Sys2Proof.Machine

@[simp] theorem pulses_toList (p : Params) (f : Frame2) :
    (pulses p f).toList = pulseList p.timing p.frame1.toList f.toList := rfl

@[simp] theorem bitsPulses_nil (t : Timing) : bitsPulses t [] = [] := rfl

@[simp] theorem bitsPulses_cons (t : Timing) (b : Bool) (s : BitStr) :
    bitsPulses t (b :: s) = t.bitOn :: bitSpace t b :: bitsPulses t s := rfl

/-- The segments of a list that continues another, at the index where it continues (R557). -/
theorem segmentsFrom_append (k : Nat) (l m : List Dur) :
    segmentsFrom k (l ++ m) = segmentsFrom k l ++ segmentsFrom (k + l.length) m := by
  induction l generalizing k with
  | nil => simp [segmentsFrom]
  | cons d l ih => simp [segmentsFrom, ih, Nat.add_assoc, Nat.add_comm 1]

/-- The segments in the form of R557: the concatenation over the indices. -/
theorem segmentsFrom_eq_mapIdx (l : List Dur) (k : Nat) :
    segmentsFrom k l = (l.mapIdx fun i d => synthElement (k + i) d).flatten := by
  induction l generalizing k with
  | nil => rfl
  | cons d l ih => simp [segmentsFrom, ih, List.mapIdx_cons, Nat.add_assoc, Nat.add_comm 1]

/-- The carrier constants are 26, 8 and 18 µs (R551 to R553). -/
theorem carrier_constants : carrierCycle = 26 ∧ carrierActive = 8 ∧ carrierIdle = 18 := by decide

@[simp] theorem totalTime_nil : totalTime [] = 0 := rfl

@[simp] theorem totalTime_cons (g : Segment) (l : List Segment) : totalTime (g :: l) = g.dur.toNat + totalTime l := rfl

@[simp] theorem totalTime_append (l m : List Segment) : totalTime (l ++ m) = totalTime l + totalTime m := by
  simp [totalTime]

/-- After the last segment the line is low (R559, R560). -/
theorem lineLevel_after (l : List Segment) (t : Nat) (h : totalTime l ≤ t) : lineLevel l t = false := by
  induction l generalizing t with
  | nil => rfl
  | cons g l ih =>
    simp only [lineLevel, totalTime_cons] at *
    rw [if_neg (by omega)]
    exact ih _ (by omega)

/-- The line of a list before the end of its first part is the line of that part (R560). -/
theorem lineLevel_append_left (l m : List Segment) (t : Nat) (h : t < totalTime l) :
    lineLevel (l ++ m) t = lineLevel l t := by
  induction l generalizing t with
  | nil => simp at h
  | cons g l ih =>
    simp only [List.cons_append, lineLevel, totalTime_cons] at *
    split
    · rfl
    · exact ih _ (by omega)

/-- From the end of its first part on, the line of a list is that of the second part (R560). -/
theorem lineLevel_append_right (l m : List Segment) (t : Nat) :
    lineLevel (l ++ m) (totalTime l + t) = lineLevel m t := by
  induction l generalizing t with
  | nil => simp
  | cons g l ih =>
    simp only [List.cons_append, lineLevel, totalTime_cons]
    rw [if_neg (by omega), show g.dur.toNat + totalTime l + t - g.dur.toNat = totalTime l + t by omega]
    exact ih t

end Sys2Proof.Machine
end

