-- ==== Sys2Proof/Tests/Slice0.lean ====
section
/-! SUPPORT. The model's own tests, each about one step on a small state, and for every obligation with hypotheses a concrete
state and operands that meet them. Expected values are those of spec/95_test_vectors.md and of the rules named; where a rule
is stated for the default constants and the test uses other ones, the value is computed by hand from the rule. -/

namespace Sys2Proof.Machine.Tests

/-! ### Small states -/

/-- A block with all six timing constants 0 (P9, Y10), so that its segment list is short: 225 segments (0, 0). -/
def smallParams (v : Variant) (cap : Nat) : Params where
  variant := v
  frame1 := Vector.replicate 70 false
  timing := ⟨0, 0, 0, 0, 0, 0⟩
  outputLine := ⟨7⟩
  segCap := cap

/-- After reset, with the host's moves `ms`, the engine's coming answer `a` and move `m`. -/
def start (v : Variant) (cap : Nat) (a : Answer) (m : EngineMove) (ms : List HostMove) : State :=
  { State.built (smallParams v cap) with
    host := ms
    engine := { (State.built (smallParams v cap)).engine with answer := a, move := m } }

/-- After reset, variant A, with one word at the port. -/
def idle (w : Word) : State := start .A 225 .accept (.emit 0) [.word w]

/-- A two-segment list: 3 µs high, 2 µs low. -/
def twoSegs : List Segment := [⟨true, 3⟩, ⟨false, 2⟩]

/-- `idle w` with SEG valid. -/
def withSeg (a : Answer) (w : Word) : State := { start .A 225 a (.emit 0) [.word w] with seg := some twoSegs }

/-- A transmission of `twoSegs` in flight, 1 µs of it shown; the engine's coming move is `m`, and the host holds SETPWR ON. -/
def inFlight (m : EngineMove) : State :=
  { start .A 225 .accept m [.word 0x1001] with
    seg := some twoSegs
    status := ⟨true, .none, false, .none⟩
    engine := ⟨some ⟨⟨7⟩, twoSegs⟩, some ⟨⟨7⟩, twoSegs, 1⟩, .accept, m, 1⟩ }

/-- Faulted by DOMAIN_VIOLATION (STATUS 0x0140). -/
def faulted (ms : List HostMove) : State :=
  { start .A 225 .accept (.emit 0) ms with status := ⟨false, .none, true, .domainViolation⟩ }

/-- The ST and STATUS words after one step. -/
def wordsAfter (s : State) : Option (Word × Word) :=
  match step s with
  | .next t => some (t.st.word, t.statusWord)
  | _ => none

/-- The STATUS word after a command is performed. -/
def statusAfter (i : Instr) (s : State) : Option Word :=
  match exec i s with
  | .next t => some t.statusWord
  | _ => none

/-! ### The domain check refuses (R304, R306) -/

theorem test_inDomain_mode : (Instr.setmode 3).inDomain = false := by decide
theorem test_inDomain_temp_low : (Instr.settemp 15).inDomain = false := by decide
theorem test_inDomain_temp_high : (Instr.settemp 31).inDomain = false := by decide
theorem test_inDomain_fan : (Instr.setfan 6).inDomain = false := by decide
theorem test_inDomain_dir : (Instr.setdir 6).inDomain = false := by decide

/-! ### Decoding, word by word from the encodings of R302 -/

theorem test_decode_setpwr : decode 0b0001000000000001 = .command (.setpwr 1) := by decide
theorem test_decode_setmode : decode 0b0010000000000010 = .command (.setmode 2) := by decide
theorem test_decode_settemp : decode 0b0011000000011001 = .command (.settemp 25) := by decide
theorem test_decode_setfan : decode 0b0100000000000101 = .command (.setfan 5) := by decide
theorem test_decode_setdir : decode 0b0101000000000011 = .command (.setdir 3) := by decide
theorem test_decode_encode : decode 0b1000000000000000 = .command .encode := by decide
theorem test_decode_convert : decode 0b1001000000000000 = .command .convert := by decide
theorem test_decode_synth : decode 0b1010000000000000 = .command .synth := by decide
theorem test_decode_transmit : decode 0b1011000000000000 = .command .transmit := by decide
theorem test_decode_send : decode 0b1100000000000000 = .command .send := by decide

/-- V17: bit 5 set under SETTEMP. -/
theorem test_decode_settemp_bit5 : decode 0x3020 = .illegal .mustBeZero := by decide
/-- V21: opcode 6. -/
theorem test_decode_op6 : decode 0x6000 = .illegal .reservedOpcode := by decide

theorem test_decodeTableWord : decodeTableWord 16 0xB000 = some .transmit := by decide
theorem test_decodeTableWord_illegal : decodeTableWord 16 0x8001 = none := by decide

/-- The delivered word is the one the next step performs: V11. -/
theorem test_withFetchWord :
    wordsAfter (State.withFetchWord (start .A 225 .accept (.emit 0) []) 16 0x4005) = some (0x05C8, 0x0000) := by decide

/-! ### Setters and the command cycle (V1 to V24) -/

theorem test_setpwr_on : wordsAfter (idle 0x1001) = some (0x00C9, 0x0000) := by decide
theorem test_setpwr_off : wordsAfter (idle 0x1000) = some (0x00C8, 0x0000) := by decide
theorem test_setmode_heat : wordsAfter (idle 0x2002) = some (0x00CC, 0x0000) := by decide
theorem test_setmode_3 : wordsAfter (idle 0x2003) = some (0x00C8, 0x0140) := by decide
theorem test_settemp_16 : wordsAfter (idle 0x3010) = some (0x0080, 0x0000) := by decide
theorem test_settemp_15 : wordsAfter (idle 0x300F) = some (0x00C8, 0x0140) := by decide
theorem test_setfan_5 : wordsAfter (idle 0x4005) = some (0x05C8, 0x0000) := by decide
theorem test_setfan_6 : wordsAfter (idle 0x4006) = some (0x00C8, 0x0140) := by decide
theorem test_setdir_p3 : wordsAfter (idle 0x5003) = some (0x18C8, 0x0000) := by decide
theorem test_setdir_7 : wordsAfter (idle 0x5007) = some (0x00C8, 0x0140) := by decide
/-- V16 -/
theorem test_illegal_word : wordsAfter (idle 0x1003) = some (0x00C8, 0x0340) := by decide
/-- V24: ILLEGAL_COMMAND comes before DOMAIN_VIOLATION. -/
theorem test_illegal_before_domain : wordsAfter (idle 0x3060) = some (0x00C8, 0x0340) := by decide
/-- V22: a faulted block ignores the word. -/
theorem test_faulted_ignores : wordsAfter (faulted [.word 0x1001]) = some (0x00C8, 0x0140) := by decide
/-- Program 3: reset leaves the faulted state. -/
theorem test_reset_leaves_fault : wordsAfter (faulted [.reset]) = some (0x00C8, 0x0000) := by decide
theorem test_no_move : step (start .A 225 .accept (.emit 0) []) = .refused .noHostMove := rfl

/-! ### The frame (section 3 of the vectors) -/

/-- Bytes 6, 7, 9 and 19 of a frame, as wire values. -/
def variableBytes (f : Frame2) : List Nat := [5, 6, 8, 18].map fun k => wval8 (frameByte f k)

/-- E1 -/
theorem test_frame_E1 :
    variableBytes (frame2Of .A ⟨true, .cool, ⟨25, by decide⟩, 0, .auto⟩) = [0x31, 0x32, 0xAF, 0x94] := by decide
/-- E5 (D7) -/
theorem test_frame_E5 :
    variableBytes (frame2Of .A ⟨false, .heat, ⟨16, by decide⟩, 3, .p3⟩) = [0x40, 0x20, 0x63, 0x45] := by decide
/-- E10 (D7) -/
theorem test_frame_E10 :
    variableBytes (frame2Of .A ⟨true, .cool, ⟨27, by decide⟩, 2, .p4⟩) = [0x31, 0x36, 0x54, 0x3D] := by decide
/-- E14 -/
theorem test_frame_E14 :
    variableBytes (frame2Of .B ⟨true, .heat, ⟨30, by decide⟩, 5, .p5⟩) = [0x41, 0x3C, 0xA1, 0xA0] := by decide
/-- The on-wire strings of bytes 6, 7 and 9 (S1). -/
theorem test_frame_strings :
    [5, 6, 8].map (frameByte (frame2Of .A ⟨true, .cool, ⟨25, by decide⟩, 0, .auto⟩)) =
      [bin8 0b10001100, bin8 0b01001100, bin8 0b11110101] := by decide
/-- R15: character 0 of `bin8` is the most significant bit. -/
theorem test_bin8 : (bin8 0b10001100).toList = [true, false, false, false, true, true, false, false] := by decide

/-- ENCODE from reset: STATUS 0x0002. -/
theorem test_encode_status : wordsAfter (idle 0x8000) = some (0x00C8, 0x0002) := by decide

/-! ### The pulse train and the carrier (sections 4 and 5 of the vectors) -/

/-- S3 -/
theorem test_bits_101 : bitsPulses Timing.default [true, false, true] = [460, 1300, 460, 430, 460, 1300] := by decide
/-- P10 -/
theorem test_convert_not_ready : wordsAfter (idle 0x9000) = some (0x00C8, 0x0440) := by decide
/-- P11 -/
theorem test_convert_status :
    statusAfter .convert { idle 0x9000 with frame2 := some (Vector.replicate 152 true) } = some 0x0006 := by decide
/-- R509: the phases at the boundaries. -/
theorem test_phases :
    [1, 2, 141, 142, 145, 146, 449, 450, 451].map phase =
      [.hdr1Off, .f1Bit 0 true, .f1Bit 69 false, .sepOn, .hdr2Off, .f2Bit 0 true, .f2Bit 151 false, .trail, .done] := by
  decide
/-- Y4 -/
theorem test_mark_26_space_1 : synthMark 26 ++ synthSpace 1 = [⟨true, 8⟩, ⟨false, 18⟩, ⟨false, 1⟩] := by decide
/-- Y5 -/
theorem test_mark_25_space_0 : synthMark 25 ++ synthSpace 0 = [⟨false, 0⟩] := by decide
/-- Y2 -/
theorem test_mark_460 : (synthMark 460).length = 34 ∧ totalTime (synthMark 460) = 442 := by decide
/-- Y12: NOT_READY. -/
theorem test_synth_not_ready : wordsAfter (idle 0xA000) = some (0x00C8, 0x0440) := by decide
/-- Y10: all constants 0. -/
theorem test_synth_zero :
    segments (Vector.replicate 451 0) = List.replicate 225 ⟨false, 0⟩ := by decide +kernel
/-- Y14: the carrier inside a burst, and the space after it. -/
theorem test_line_of_mark :
    [0, 7, 8, 25, 26, 33, 34, 423, 424, 442].map (lineLevel (synthMark 460 ++ synthSpace 430)) =
      [true, true, false, false, true, true, false, true, false, false] := by decide

/-! ### TRANSMIT and SEND (section 6 of the vectors) -/

/-- T1 -/
theorem test_transmit_not_ready : wordsAfter (idle 0xB000) = some (0x00C8, 0x0440) := by decide
/-- T5: accepted, BUSY = 1. -/
theorem test_transmit_accepted : wordsAfter (withSeg .accept 0xB000) = some (0x00C8, 0x0009) := by decide
/-- T3: refused, TXRES = FAIL, no fault. -/
theorem test_transmit_refused : wordsAfter (withSeg .refuse 0xB000) = some (0x00C8, 0x0028) := by decide
/-- T2: completion with OK. -/
theorem test_completion_ok : wordsAfter (inFlight (.report .ok)) = some (0x00C8, 0x0018) := by decide
/-- T4: completion with FAIL. -/
theorem test_completion_fail : wordsAfter (inFlight (.report (.fail 1))) = some (0x00C8, 0x0028) := by decide
/-- T5: no report, no word accepted. -/
theorem test_busy_waits : wordsAfter (inFlight (.emit 1)) = some (0x00C8, 0x0009) := by decide
/-- What the line has shown after one step, at 0 to 5 µs. -/
def shownAfter (s : State) : Option (List Bool) :=
  match step s with
  | .next t => some ([0, 1, 2, 3, 4, 5].map t.shownLevel)
  | _ => none

/-- R726: 1 µs shown, then 1 more of the 3 µs at level 1. -/
theorem test_emission_goes_on : shownAfter (inFlight (.emit 1)) = some [true, true, false, false, false, false] := by decide
/-- R608: when the emission breaks off after 1 more µs, the line has shown 2 µs and is then low. -/
theorem test_failed_prefix :
    shownAfter (inFlight (.report (.fail 1))) = some [true, true, false, false, false, false] := by decide
/-- R560, R608: on OK the whole waveform, 3 µs high and 2 µs low. -/
theorem test_whole_waveform : shownAfter (inFlight (.report .ok)) = some [true, true, true, false, false, false] := by decide
/-- T7 with BUSY still 1, and T5's other bits. -/
theorem test_send_accepted : statusAfter .send (idle 0xC000) = some 0x000F := by decide +kernel
/-- T8: CAPACITY, the frame and the train stay valid. -/
theorem test_send_capacity :
    statusAfter .send (start .A 224 .accept (.emit 0) []) = some 0x0546 := by decide +kernel

/-! ### Ports and the assembler -/

/-- I22 -/
theorem test_port_invalid : (idle 0).readPort .frame2 = .error (.invalidBuffer .frame2) := rfl
/-- R310 and R308: names, case and comment. -/
theorem test_asm_settemp : assembleWords .A "SETTEMP 25 ; warm" = some [0x3019] := by decide
theorem test_asm_setfan : assembleWords .A "SETFAN f5" = some [0x4005] := by decide
theorem test_asm_setfan_B : assembleWords .B "SETFAN F5" = none := by decide
theorem test_asm_too_hot : assembleWords .A "SETTEMP 32" = none := by decide
/-- R309: APPLY. -/
theorem test_asm_apply :
    assembleWords .B "APPLY ON, HEAT, 30, LEVEL4, P5" =
      some [0x1001, 0x2002, 0x301E, 0x4005, 0x5005, 0xC000] := by decide

/-! ### Witnesses: the hypotheses of the obligations are met -/

theorem witness_DecodedWordIsTheCommandsWord : decode 0x301F = .command (.settemp 31) := by decide

theorem witness_StepRunsTheDecodedCommand :
    (idle 0x1001).status.busy = false ∧ (idle 0x1001).status.fault = false ∧ (idle 0x1001).host = .word 0x1001 :: [] ∧
      decode 0x1001 = .command (.setpwr 1) := by decide

theorem witness_IllegalWordRaisesIllegalCommand :
    (idle 0x1003).status.busy = false ∧ (idle 0x1003).status.fault = false ∧ (idle 0x1003).host = .word 0x1003 :: [] ∧
      decode 0x1003 = .illegal .mustBeZero := by decide

theorem witness_FaultedBlockIgnoresEveryWord :
    (faulted [.word 0x8000, .word 0x1001, .reset]).status.busy = false ∧
      (faulted [.word 0x8000, .word 0x1001, .reset]).status.fault = true ∧
      (faulted [.word 0x8000, .word 0x1001, .reset]).host = [0x8000, 0x1001].map HostMove.word ++ [.reset] := by decide

theorem witness_FaultedBlockIgnoresEveryWord_reset :
    (faulted [.reset]).host = ([] : List Word).map HostMove.word ++ [.reset] ∧
      step (faulted [.reset]) = .next (faulted []).assertReset ∧ (faulted []).assertReset.status.fault = false :=
  ⟨rfl, rfl, rfl⟩

theorem witness_BusyStepAcceptsNothing : (inFlight (.emit 1)).status.busy = true ∧ (inFlight (.report .ok)).status.busy = true := by
  decide

theorem witness_ResetMoveLeavesTheResetState :
    (faulted [.reset, .word 0x8000]).status.busy = false ∧
      (faulted [.reset, .word 0x8000]).host = .reset :: [.word 0x8000] := by decide

theorem witness_StepKeepsTheParameters : step (inFlight (.emit 1)) = .next ((inFlight (.emit 1)).emit 1) := rfl

theorem witness_StepMovesUnlessNobodyHasAMove :
    (start .A 225 .accept (.emit 0) []).status.busy = false ∧ (start .A 225 .accept (.emit 0) []).host = [] := by decide

theorem witness_SetModeWritesTheModeField :
    (2 : BitVec 2) ≠ 3 ∧ (3 : BitVec 2) = 3 ∧ (idle 0).status.fault = false := by decide

theorem witness_SetTempWritesTheTempField :
    (16 ≤ (16 : BitVec 5).toNat ∧ (16 : BitVec 5).toNat ≤ 30) ∧ (16 ≤ (30 : BitVec 5).toNat ∧ (30 : BitVec 5).toNat ≤ 30) ∧
      ((15 : BitVec 5).toNat < 16 ∨ 30 < (15 : BitVec 5).toNat) ∧ ((31 : BitVec 5).toNat < 16 ∨ 30 < (31 : BitVec 5).toNat) ∧
      (idle 0).status.fault = false := by decide

theorem witness_SetFanWritesTheFanField :
    (5 : BitVec 3).toNat ≤ 5 ∧ 5 < (6 : BitVec 3).toNat ∧ (idle 0).status.fault = false := by decide

theorem witness_SetDirWritesTheDirField :
    (5 : BitVec 3).toNat ≤ 5 ∧ 5 < (6 : BitVec 3).toNat ∧ (idle 0).status.fault = false := by decide

theorem witness_DomainViolationExactlyOutsideTheDomain :
    (idle 0).status.fault = false ∧ (idle 0).status.err = .none ∧ (Instr.setfan 7).inDomain = false := by decide

theorem witness_SettersLeaveEverythingElse : ∃ f, Instr.setfan 6 = .setfan f := ⟨6, rfl⟩

theorem witness_VariantsDifferInByte9AndItsChecksumOnly : (6 : Fin 19) ≠ 8 ∧ (6 : Fin 19) ≠ 18 := by decide

/-- A frame for the witnesses: 152 times '1'. -/
def someFrame : Frame2 := Vector.replicate 152 true

/-- A train for the witnesses: 451 zeros (P9). -/
def someTrain : PulseTrain := Vector.replicate 451 0

theorem witness_ConvertWritesThePulseTrain :
    ({ idle 0x9000 with frame2 := some someFrame } : State).frame2 = some someFrame ∧
      ((idle 0x9000).frame2 = none ∧ (idle 0x9000).status.fault = false) := ⟨rfl, rfl, rfl⟩

theorem witness_StageWithoutItsBufferIsNotReady :
    (idle 0).status.fault = false ∧ (idle 0).status.err = .none ∧
      (idle 0).frame2 = none ∧ (idle 0).pt = none ∧ (idle 0).seg = none := ⟨rfl, rfl, rfl, rfl, rfl⟩

theorem someTrain_length : (segments someTrain).length = 225 := by decide +kernel

theorem witness_SynthWritesTheSegments :
    ({ start .A 225 .accept (.emit 0) [] with pt := some someTrain } : State).pt = some someTrain ∧
      (segments someTrain).length ≤ (start .A 225 .accept (.emit 0) []).params.segCap ∧
      (start .A 224 .accept (.emit 0) []).params.segCap < (segments someTrain).length ∧
      (start .A 224 .accept (.emit 0) []).status.fault = false ∧ (start .A 224 .accept (.emit 0) []).pt = none := by
  refine ⟨rfl, ?_, ?_, rfl, rfl⟩
  · rw [someTrain_length]; decide
  · rw [someTrain_length]; decide

theorem witness_MarkDropsItsRemainder : (25 : Dur).toNat < 26 := by decide

theorem witness_SegmentFiguresAtTheDefaults :
    ({ smallParams .A 8377 with timing := Timing.default } : Params).timing = Timing.default := rfl

theorem witness_LineLevelOfAnEmission :
    (segStart twoSegs 1 ≤ 3 ∧ 3 < segStart twoSegs 1 + twoSegs[1].dur.toNat) ∧ totalTime twoSegs ≤ 5 ∧
      441 < 26 * ((460 : Dur).toNat / 26) := by decide

theorem witness_TransmitAcceptedIsInFlight :
    (withSeg .accept 0xB000).seg = some twoSegs ∧ (withSeg .accept 0xB000).engine.answer = .accept := by decide

theorem witness_TransmitRefusedFails :
    (withSeg .refuse 0xB000).seg = some twoSegs ∧ (withSeg .refuse 0xB000).engine.answer = .refuse := by decide

theorem witness_CompletionEndsTheTransmission :
    ((inFlight (.emit 1)).status.busy = true ∧ (inFlight (.emit 1)).engine.move = .emit 1) ∧
      ((inFlight (.report .ok)).status.busy = true ∧ (inFlight (.report .ok)).engine.move = .report .ok) ∧
      ((inFlight (.report (.fail 1))).status.busy = true ∧
        (inFlight (.report (.fail 1))).engine.move = .report (.fail 1)) := by decide

theorem witness_LineShowsTheWaveformOrAPrefix :
    ((inFlight (.report (.fail 1))).status.busy = true ∧ (inFlight (.report (.fail 1))).engine.handles = some ⟨⟨7⟩, twoSegs⟩ ∧
      (inFlight (.report (.fail 1))).engine.move = .report (.fail 1)) ∧
      ((inFlight (.report .ok)).status.busy = true ∧ (inFlight (.report .ok)).engine.handles = some ⟨⟨7⟩, twoSegs⟩ ∧
        (inFlight (.report .ok)).engine.move = .report .ok) ∧
      (withSeg .refuse 0xB000).seg = some twoSegs ∧ (withSeg .refuse 0xB000).engine.answer = .refuse := by decide

theorem small_send_length :
    (segments (pulses (smallParams .A 225) (frame2Of .A ST.reset))).length = 225 := by decide +kernel

theorem witness_SendPutsTheStateInFlight :
    (segments (pulses (idle 0xC000).params (frame2Of (idle 0xC000).params.variant (idle 0xC000).st))).length ≤
        (idle 0xC000).params.segCap ∧
      (idle 0xC000).engine.answer = .accept :=
  ⟨le_of_eq small_send_length, rfl⟩

theorem witness_SendIsItsFourCommands : (idle 0xC000).status.fault = false := rfl

theorem witness_SendOverCapacityKeepsFrameAndTrain :
    (start .A 224 .accept (.emit 0) []).status.fault = false ∧
      (start .A 224 .accept (.emit 0) []).params.segCap <
        (segments (pulses (start .A 224 .accept (.emit 0) []).params
          (frame2Of (start .A 224 .accept (.emit 0) []).params.variant (start .A 224 .accept (.emit 0) []).st))).length := by
  refine ⟨rfl, ?_⟩
  have h : (segments (pulses (start .A 224 .accept (.emit 0) []).params
      (frame2Of (start .A 224 .accept (.emit 0) []).params.variant (start .A 224 .accept (.emit 0) []).st))).length = 225 :=
    small_send_length
  rw [h]; decide

theorem witness_StatusWordAfterEachStage :
    ({ idle 0 with frame2 := some someFrame } : State).frame2 = some someFrame ∧
      (({ idle 0 with pt := some someTrain } : State).pt = some someTrain ∧
        (segments someTrain).length ≤ (idle 0).params.segCap) ∧
      ((withSeg .accept 0).seg = some twoSegs ∧ (withSeg .accept 0).engine.answer = .accept) ∧
      ((withSeg .refuse 0).seg = some twoSegs ∧ (withSeg .refuse 0).engine.answer = .refuse) :=
  ⟨rfl, ⟨rfl, le_of_eq someTrain_length⟩, ⟨rfl, rfl⟩, rfl, rfl⟩

theorem witness_FirstFaultStaysUntilReset :
    (faulted [.word 0x2003]).status.fault = true ∧
      step (faulted [.word 0x2003]) = .next (faulted []) ∧ (faulted [.word 0x2003]).host.head? ≠ some .reset :=
  ⟨rfl, rfl, by decide⟩

theorem witness_OnlySettersAndResetWriteSt :
    step (idle 0x1001) = .next (State.setSt { ST.reset with power := true } (start .A 225 .accept (.emit 0) [])) ∧
      (State.setSt { ST.reset with power := true } (start .A 225 .accept (.emit 0) [])).st ≠ (idle 0x1001).st :=
  ⟨rfl, by decide⟩

theorem witness_OnlyTransmissionAndResetWriteTxres :
    step (withSeg .refuse 0xB000) =
        .next (State.refuseRequest { start .A 225 .refuse (.emit 0) [] with seg := some twoSegs }) ∧
      (State.refuseRequest { start .A 225 .refuse (.emit 0) [] with seg := some twoSegs }).status.txres ≠
        (withSeg .refuse 0xB000).status.txres :=
  ⟨rfl, by decide⟩

theorem witness_OnlyTransmissionAndResetWriteTxres_completion :
    step (inFlight (.report .ok)) = .next ((inFlight (.report .ok)).complete .ok) ∧
      ((inFlight (.report .ok)).complete .ok).status.txres ≠ (inFlight (.report .ok)).status.txres :=
  ⟨rfl, by decide⟩

/-- The state after SEND from reset, with an engine that accepts. -/
def sent : State :=
  (((((start .A 225 .accept (.emit 0) []).encodeStep.andThen State.convertStep).andThen State.synthStep).andThen
    State.transmitStep)).state

theorem witness_StepKeepsCoherence : Coherent (idle 0xC000) ∧ step (idle 0xC000) = .next sent := by
  refine ⟨⟨?_, ?_, ?_, ?_, ?_⟩, rfl⟩
  · intro f h; exact absurd h (by simp [idle, start, State.built])
  · intro p h; exact absurd h (by simp [idle, start, State.built])
  · intro l h; exact absurd h (by simp [idle, start, State.built])
  · exact ⟨Iff.intro (fun _ => rfl) fun _ => rfl, by decide⟩
  · exact ⟨fun h => absurd h (by decide), fun _ => rfl, fun h => absurd h (by decide)⟩

theorem witness_EveryTransmissionIsAWholeFrame : Reachable sent ∧ sent.status.busy = true :=
  ⟨.step _ _ (.start (smallParams .A 225) [.word 0xC000] .accept (.emit 0)) rfl, by decide +kernel⟩

/-- The train of the reset state. -/
def resetTrain : PulseTrain := pulses (smallParams .A 225) (frame2Of .A ST.reset)

/-- A coherent block that transmits the reset state; the engine's coming move is `m`. -/
def transmitting (m : EngineMove) : State :=
  { start .A 225 .accept m [] with
    frame2 := some (frame2Of .A ST.reset)
    pt := some resetTrain
    seg := some (segments resetTrain)
    status := ⟨true, .none, false, .none⟩
    engine := ⟨some ⟨⟨7⟩, segments resetTrain⟩, some ⟨⟨7⟩, segments resetTrain, 0⟩, .accept, m, 1⟩ }

theorem transmitting_coherent (m : EngineMove) : Coherent (transmitting m) := by
  refine ⟨fun f h => ⟨ST.reset, (Option.some.inj h).symm⟩, fun p h => ⟨_, rfl, (Option.some.inj h).symm⟩,
    fun l h => ⟨resetTrain, rfl, (Option.some.inj h).symm, ?_⟩, ⟨Iff.intro (fun _ => rfl) fun _ => rfl, ?_⟩,
    fun _ => ⟨rfl, rfl, _, rfl, rfl, 0, Nat.zero_le _, rfl⟩, ?_, ?_⟩
  · obtain rfl := Option.some.inj h
    exact le_of_eq small_send_length
  · exact ErrCode.noConfusion
  · exact fun h => Bool.noConfusion h
  · exact fun h => TxRes.noConfusion h

theorem witness_LineShowsTheWaveformOrAPrefix_coherent :
    (transmitting (.report (.fail 1))).status.busy = true ∧
      (transmitting (.report (.fail 1))).engine.handles = some ⟨⟨7⟩, segments resetTrain⟩ ∧
      (transmitting (.report (.fail 1))).engine.move = .report (.fail 1) ∧ Coherent (transmitting (.report (.fail 1))) :=
  ⟨rfl, rfl, rfl, transmitting_coherent _⟩

theorem witness_CoherentBusyBlockEmitsAWholeFrame :
    Coherent (transmitting (.emit 1)) ∧ (transmitting (.emit 1)).status.busy = true :=
  ⟨transmitting_coherent _, rfl⟩

theorem witness_LineShowsAGrowingPrefixWhileBusy :
    ((withSeg .accept 0xB000).seg = some twoSegs ∧ (withSeg .accept 0xB000).engine.answer = .accept) ∧
      (Coherent (transmitting (.emit 1)) ∧ (transmitting (.emit 1)).status.busy = true ∧
        (transmitting (.emit 1)).engine.move = .emit 1) ∧
      Coherent (transmitting (.report .ok)) ∧ (transmitting (.report .ok)).status.busy = true ∧
        (transmitting (.report .ok)).engine.move = .report .ok :=
  ⟨⟨rfl, rfl⟩, ⟨transmitting_coherent _, rfl, rfl⟩, transmitting_coherent _, rfl, rfl⟩

end Sys2Proof.Machine.Tests
end

section
/-! The parameters are kept (R7, R802): by each shared operation, by each command, and so by every step. -/

namespace Sys2Proof.Machine

@[simp] theorem setField_params {α : Type} (value? : Option α) (upd : α → ST) (s : State) :
    (setField value? upd s).state.params = s.params := by
  rcases setField_state value? upd s with ⟨x, -, h⟩ | ⟨-, h⟩ <;> simp [h]

@[simp] theorem encodeStep_params (s : State) : s.encodeStep.state.params = s.params := rfl

@[simp] theorem convertStep_params (s : State) : s.convertStep.state.params = s.params := by
  rcases convertStep_state s with ⟨-, h⟩ | ⟨f, -, h⟩ <;> simp [h]

@[simp] theorem synthStep_params (s : State) : s.synthStep.state.params = s.params := by
  rcases synthStep_state s with ⟨-, h⟩ | ⟨p, -, -, h⟩ | ⟨p, -, -, h⟩ <;> simp [h]

@[simp] theorem transmitStep_params (s : State) : s.transmitStep.state.params = s.params := by
  rcases transmitStep_state s with ⟨-, h⟩ | ⟨l, -, -, h⟩ | ⟨l, -, -, h⟩ <;> simp [h]

@[simp] theorem engineMove_params (s : State) : s.engineMove.params = s.params := by
  rcases engineMove_cases s with ⟨us, -, h⟩ | ⟨c, -, h⟩ <;> simp [h]

/-- A longer command keeps the parameters where its next step does (R609, R610). -/
theorem andThen_params (p : Performed) {f : State → Performed} (hf : ∀ u, (f u).state.params = u.params) :
    (p.andThen f).state.params = p.state.params := by
  cases p with
  | done u => exact hf u
  | faulted u => rfl

/-- SEND keeps the parameters because each of its four steps does (R609). -/
theorem execSend_eq_next_params (s : State) : ∃ t, execSend s = .next t ∧ t.params = s.params := by
  refine ⟨_, rfl, ?_⟩
  rw [andThen_params _ transmitStep_params, andThen_params _ synthStep_params, andThen_params _ convertStep_params,
    encodeStep_params]

/-- Every command ends in a next state, which has the parameters of the state it began in (R7, R401). -/
theorem exec_eq_next_params (i : Instr) (s : State) : ∃ t, exec i s = .next t ∧ t.params = s.params := by
  cases i with
  | setpwr _ | setmode _ | settemp _ | setfan _ | setdir _ => exact ⟨_, rfl, setField_params _ _ s⟩
  | encode => exact ⟨_, rfl, encodeStep_params s⟩
  | convert => exact ⟨_, rfl, convertStep_params s⟩
  | synth => exact ⟨_, rfl, synthStep_params s⟩
  | transmit => exact ⟨_, rfl, transmitStep_params s⟩
  | send => exact execSend_eq_next_params s

/-- An accepted word, ignored, illegal or performed, leaves a next state with the same parameters (R401). -/
theorem acceptWord_eq_next_params (w : Word) (s : State) : ∃ t, acceptWord w s = .next t ∧ t.params = s.params := by
  rcases acceptWord_cases w s with ⟨-, h⟩ | ⟨-, _, -, h⟩ | ⟨-, i, -, h⟩
  · exact ⟨s, h, rfl⟩
  · exact ⟨_, h, State.raise_params _ s⟩
  · rw [h]
    exact exec_eq_next_params i s

/-- Settles O11, by the cases of a step: the engine's move, an accepted word, and reset each keep the parameters. -/
theorem stepKeepsTheParameters : Obligations.StepKeepsTheParameters := by
  intro s t ht
  rcases step_cases s with ⟨-, h⟩ | ⟨-, w, rest, -, h⟩ | ⟨-, rest, -, h⟩ | ⟨-, -, h⟩
  · obtain rfl : s.engineMove = t := by simpa [h] using ht
    exact engineMove_params s
  · obtain ⟨u, hu, hp⟩ := acceptWord_eq_next_params w { s with host := rest }
    obtain rfl : u = t := by simpa [h, hu] using ht
    exact hp
  · obtain rfl : State.assertReset { s with host := rest } = t := by simpa [h] using ht
    rfl
  · simp [h] at ht

end Sys2Proof.Machine
end

section
/-! What a step that answers `t` has done: the cases of a step (R401, R718), each with what it says of `t`. -/

namespace Sys2Proof.Machine

/-- An accepted word that left `t` was ignored, illegal, or performed (R401). -/
theorem acceptWord_next_cases {w : Word} {s t : State} (ht : acceptWord w s = .next t) :
    (s.status.fault = true ∧ t = s) ∨
      (s.status.fault = false ∧ t = s.raise .illegalCommand) ∨
      (s.status.fault = false ∧ ∃ i, decode w = .command i ∧ exec i s = .next t) := by
  rcases acceptWord_cases w s with ⟨hfault, h⟩ | ⟨hsafe, _, -, h⟩ | ⟨hsafe, i, hi, h⟩ <;> rw [h] at ht
  · cases ht
    exact .inl ⟨hfault, rfl⟩
  · cases ht
    exact .inr (.inl ⟨hsafe, rfl⟩)
  · exact .inr (.inr ⟨hsafe, i, hi, ht⟩)

/-- A step that left `t` was the engine's move, an accepted word, or reset (R718, R801). -/
theorem step_next_cases {s t : State} (ht : step s = .next t) :
    (s.status.busy = true ∧ t = s.engineMove) ∨
      (s.status.busy = false ∧ ∃ w rest, s.host = .word w :: rest ∧ acceptWord w { s with host := rest } = .next t) ∨
      (s.status.busy = false ∧ ∃ rest, s.host = .reset :: rest ∧ t = State.assertReset { s with host := rest }) := by
  rcases step_cases s with ⟨hbusy, h⟩ | ⟨hidle, w, rest, hhost, h⟩ | ⟨hidle, rest, hhost, h⟩ | ⟨-, -, h⟩ <;> rw [h] at ht
  · cases ht
    exact .inl ⟨hbusy, rfl⟩
  · exact .inr (.inl ⟨hidle, w, rest, hhost, ht⟩)
  · cases ht
    exact .inr (.inr ⟨hidle, rest, hhost, rfl⟩)
  · cases ht

end Sys2Proof.Machine
end

section
/-! The coherence invariant: each shared operation keeps it, so each command, each accepted word and each step does. A stage of
the pipeline also keeps that the block is idle and safe, which SEND needs between its steps (R609, R610). -/

namespace Sys2Proof.Machine

/-- An idle block whose engine, parameters, BUSY and TXRES did not change is as coherent with its engine as before, whatever
became of its buffers and its fault (R115, R121). -/
theorem EngineCoherent.of_idle {s t : State} (h : EngineCoherent s) (hidle : s.status.busy = false)
    (hbusy : t.status.busy = s.status.busy) (htx : t.status.txres = s.status.txres) (heng : t.engine = s.engine)
    (hpar : t.params = s.params) : EngineCoherent t := by
  obtain ⟨-, hhandles, hshown⟩ := h
  refine ⟨fun hb => ?_, fun _ => ?_, fun hok => ?_⟩
  · simp [hbusy, hidle] at hb
  · rw [heng]
    exact hhandles hidle
  · rw [heng, hpar]
    exact hshown (htx ▸ hok)

/-- What is in flight while BUSY = 1 (R115, R116, R121, R726). -/
theorem Coherent.inFlight {s : State} (h : Coherent s) (hbusy : s.status.busy = true) :
    s.status.txres = .none ∧ s.status.fault = false ∧
      ∃ l, s.seg = some l ∧ s.engine.handles = some ⟨s.params.outputLine, l⟩ ∧
        ∃ n, n ≤ totalTime l ∧ s.engine.emission = some ⟨s.params.outputLine, l, n⟩ :=
  h.engine.left hbusy

/-- Coherence does not speak of the host's moves, nor of the engine's coming answer and move (log 7, 8). -/
theorem Coherent.withAgents {s : State} (h : Coherent s) (moves : List HostMove) (a : Answer) (m : EngineMove) :
    Coherent { s with host := moves, engine := { s.engine with answer := a, move := m } } :=
  ⟨h.frame, h.train, h.segs, h.fault, h.engine⟩

theorem Coherent.withHost {s : State} (h : Coherent s) (moves : List HostMove) : Coherent { s with host := moves } :=
  h.withAgents moves s.engine.answer s.engine.move

/-- Reset leaves a coherent state, whatever the state was: no buffer, no fault, no handles (R801). -/
theorem State.assertReset_coherent (s : State) : Coherent s.assertReset where
  frame _ hf := by simp at hf
  train _ hp := by simp at hp
  segs _ hl := by simp at hl
  fault := by simp [FaultCoherent, Status.reset]
  engine := by simp [EngineCoherent, Status.reset]

/-- Settles O56: a newly built block is what reset leaves of it. -/
theorem newBlockIsCoherent : Obligations.NewBlockIsCoherent :=
  fun p => (State.built p).assertReset_coherent

/-- The states in which the block performs a command (R401): coherent, with BUSY = 0 and FAULT = 0. -/
structure Ready (s : State) : Prop extends Coherent s where
  idle : s.status.busy = false
  safe : s.status.fault = false

theorem Ready.setSt {s : State} (h : Ready s) (x : ST) : Ready (s.setSt x) :=
  ⟨⟨h.frame, h.train, h.segs, h.fault, h.engine⟩, h.idle, h.safe⟩

/-- ENCODE's write: the new frame is that of a state, and no older train or segments are left (R469). -/
theorem Ready.putFrame2 {s : State} (h : Ready s) : Ready (s.putFrame2 s.frameNow) where
  frame f hf := ⟨s.st, (Option.some.inj hf).symm⟩
  train _ hp := by simp at hp
  segs _ hl := by simp at hl
  fault := h.fault
  engine := h.engine.of_idle h.idle rfl rfl rfl rfl
  idle := h.idle
  safe := h.safe

/-- CONVERT's write: the new train is that of the frame held, and no older segments are left (R501, R511). -/
theorem Ready.putPt {s : State} (h : Ready s) {f : Frame2} (hf : s.frame2 = some f) :
    Ready (s.putPt (pulses s.params f)) where
  frame := h.frame
  train p hp := ⟨f, hf, (Option.some.inj hp).symm⟩
  segs _ hl := by simp at hl
  fault := h.fault
  engine := h.engine.of_idle h.idle rfl rfl rfl rfl
  idle := h.idle
  safe := h.safe

/-- SYNTH's write: the new segments are those of the train held, and fit (R557, R708). -/
theorem Ready.putSeg {s : State} (h : Ready s) {p : PulseTrain} (hp : s.pt = some p)
    (hfit : (segments p).length ≤ s.params.segCap) : Ready (s.putSeg (segments p)) where
  frame := h.frame
  train := h.train
  segs l hl := by
    obtain rfl : segments p = l := Option.some.inj hl
    exact ⟨p, hp, rfl, hfit⟩
  fault := h.fault
  engine := h.engine.of_idle h.idle rfl rfl rfl rfl
  idle := h.idle
  safe := h.safe

/-- Fault entry with a code that is produced writes FAULT and ERR together and leaves the buffers (R705, R707). -/
theorem Ready.coherent_raise {s : State} (h : Ready s) {e : ErrCode} (hnone : e ≠ .none) (hlen : e ≠ .frameLength) :
    Coherent (s.raise e) where
  frame := by simpa [FrameCoherent] using h.frame
  train := by simpa [TrainCoherent] using h.train
  segs := by simpa [SegmentsCoherent] using h.segs
  fault := by simp [FaultCoherent, State.raise_status_of_safe e s h.safe, hnone, hlen]
  engine := h.engine.of_idle h.idle (by simp) (by simp) (by simp) (by simp)

/-- An accepted request puts the whole of SEG in flight, with nothing shown yet (R602, R604). -/
theorem Ready.coherent_acceptRequest {s : State} (h : Ready s) {l : List Segment} (hl : s.seg = some l) :
    Coherent (s.acceptRequest l) where
  frame := h.frame
  train := h.train
  segs := h.segs
  fault := h.fault
  engine := by
    refine ⟨fun _ => ⟨rfl, h.safe, l, hl, rfl, 0, Nat.zero_le _, rfl⟩, fun hb => ?_, fun hok => ?_⟩
    · simp at hb
    · simp at hok

/-- A refused request leaves the block idle without handles (R603). -/
theorem Ready.coherent_refuseRequest {s : State} (h : Ready s) : Coherent s.refuseRequest where
  frame := h.frame
  train := h.train
  segs := h.segs
  fault := h.fault
  engine := by
    obtain ⟨-, hhandles, -⟩ := h.engine
    refine ⟨fun hb => ?_, fun _ => hhandles h.idle, fun hok => ?_⟩
    · simp [h.idle] at hb
    · simp at hok

/-- A setter writes its field or takes DOMAIN_VIOLATION (R402 to R406). -/
theorem Ready.coherent_setField {s : State} (h : Ready s) {α : Type} (value? : Option α) (upd : α → ST) :
    Coherent (setField value? upd s).state := by
  rcases setField_state value? upd s with ⟨x, -, hx⟩ | ⟨-, hx⟩ <;> rw [hx]
  · exact (h.setSt _).toCoherent
  · exact h.coherent_raise (by decide) (by decide)

theorem Ready.coherent_convertStep {s : State} (h : Ready s) : Coherent s.convertStep.state := by
  rcases convertStep_state s with ⟨-, hx⟩ | ⟨f, hf, hx⟩ <;> rw [hx]
  · exact h.coherent_raise (by decide) (by decide)
  · exact (h.putPt hf).toCoherent

theorem Ready.coherent_synthStep {s : State} (h : Ready s) : Coherent s.synthStep.state := by
  rcases synthStep_state s with ⟨-, hx⟩ | ⟨p, -, -, hx⟩ | ⟨p, hp, hfit, hx⟩ <;> rw [hx]
  · exact h.coherent_raise (by decide) (by decide)
  · exact h.coherent_raise (by decide) (by decide)
  · exact (h.putSeg hp hfit).toCoherent

theorem Ready.coherent_transmitStep {s : State} (h : Ready s) : Coherent s.transmitStep.state := by
  rcases transmitStep_state s with ⟨-, hx⟩ | ⟨l, hl, -, hx⟩ | ⟨l, -, -, hx⟩ <;> rw [hx]
  · exact h.coherent_raise (by decide) (by decide)
  · exact h.coherent_acceptRequest hl
  · exact h.coherent_refuseRequest

/-- SEND: over SEG_CAP it stops with a fault after the frame and the train, else TRANSMIT's step follows the three writes
(R609, R610). -/
theorem Ready.coherent_execSend {s t : State} (h : Ready s) (ht : execSend s = .next t) : Coherent t := by
  have htrain : Ready ((s.putFrame2 s.frameNow).putPt s.trainNow) := h.putFrame2.putPt rfl
  rcases execSend_cases s with ⟨-, hx⟩ | ⟨hfit, hx⟩ <;> rw [hx] at ht <;> cases ht
  · exact htrain.coherent_raise (by decide) (by decide)
  · exact (htrain.putSeg rfl hfit).coherent_transmitStep

/-- Every command, performed on an idle and safe coherent block, leaves it coherent. -/
theorem Ready.coherent_exec {s t : State} (h : Ready s) {i : Instr} (ht : exec i s = .next t) : Coherent t := by
  cases i with
  | setpwr _ | setmode _ | settemp _ | setfan _ | setdir _ => cases ht; exact h.coherent_setField _ _
  | encode => cases ht; exact h.putFrame2.toCoherent
  | convert => cases ht; exact h.coherent_convertStep
  | synth => cases ht; exact h.coherent_synthStep
  | transmit => cases ht; exact h.coherent_transmitStep
  | send => exact h.coherent_execSend ht

/-- A word that an idle block accepts, ignored, illegal or performed, leaves it coherent (R401). -/
theorem Coherent.acceptWord {s t : State} (h : Coherent s) (hidle : s.status.busy = false) {w : Word}
    (ht : acceptWord w s = .next t) : Coherent t := by
  rcases acceptWord_next_cases ht with ⟨-, rfl⟩ | ⟨hsafe, rfl⟩ | ⟨hsafe, i, -, hi⟩
  · exact h
  · exact Ready.coherent_raise ⟨h, hidle, hsafe⟩ (by decide) (by decide)
  · exact Ready.coherent_exec ⟨h, hidle, hsafe⟩ hi

/-- While BUSY = 1 the engine drives the line further with SEG's waveform and never beyond its end (R608, R726). -/
theorem Coherent.emit {s : State} (h : Coherent s) (hbusy : s.status.busy = true) (us : Nat) : Coherent (s.emit us) where
  frame := h.frame
  train := h.train
  segs := h.segs
  fault := h.fault
  engine := by
    obtain ⟨htx, hsafe, l, hl, hhandles, -⟩ := h.inFlight hbusy
    refine ⟨fun _ => ⟨htx, hsafe, l, hl, hhandles, _, moveReach_le (.emit us) s.engine.shown l, ?_⟩, fun hb => ?_,
      fun hok => ?_⟩
    · simp [hhandles]
    · simp [hbusy] at hb
    · simp [htx] at hok

/-- A completion releases the handles, and reports OK only with the whole waveform shown (R605, R606, R608). -/
theorem Coherent.complete {s : State} (h : Coherent s) (hbusy : s.status.busy = true) (c : Completion) :
    Coherent (s.complete c) where
  frame := h.frame
  train := h.train
  segs := h.segs
  fault := h.fault
  engine := by
    obtain ⟨-, -, l, -, hhandles, -⟩ := h.inFlight hbusy
    refine ⟨fun hb => ?_, fun _ => rfl, fun hok => ⟨l, ?_⟩⟩
    · simp at hb
    · cases c with
      | ok => simp [hhandles, moveReach]
      | fail us => simp [completionTxres] at hok

theorem Coherent.engineMove {s : State} (h : Coherent s) (hbusy : s.status.busy = true) : Coherent s.engineMove := by
  rcases engineMove_cases s with ⟨us, -, hx⟩ | ⟨c, -, hx⟩ <;> rw [hx]
  · exact h.emit hbusy us
  · exact h.complete hbusy c

/-- Settles O57, by the cases of a step: the engine's move, an accepted word and reset each leave a coherent state. -/
theorem stepKeepsCoherence : Obligations.StepKeepsCoherence := by
  intro s t hs ht
  rcases step_next_cases ht with ⟨hbusy, rfl⟩ | ⟨hidle, w, rest, -, hw⟩ | ⟨-, rest, -, rfl⟩
  · exact hs.engineMove hbusy
  · exact (hs.withHost rest).acceptWord hidle hw
  · exact State.assertReset_coherent _

end Sys2Proof.Machine
end

section
/-! The bytes of a frame read back (R205, R452, R464): character by character from the concatenation, then the checksum over
the eighteen bytes before it. -/

namespace Sys2Proof.Machine

/-- Character `i` of byte string `k` of a concatenation (R15, R205). -/
theorem concatBytes_getElem? (bs : List ByteStr) (k i : Nat) (hi : i < 8) (hk : k < bs.length) :
    (concatBytes bs)[8 * k + i]? = some bs[k][i] := by
  induction bs generalizing k with
  | nil => simp at hk
  | cons b bs ih =>
    rw [concatBytes_cons]
    cases k with
    | zero => rw [List.getElem?_append_left (by simpa using hi)]; simp [hi]
    | succ k =>
      rw [List.getElem?_append_right (by simp; omega), List.getElem_cons_succ, ← ih k (by simpa using hk)]
      congr 1
      simp
      omega

theorem frameBytes_length (v : Variant) (st : ST) : (frameBytes v st).length = 19 := rfl

/-- Byte `k + 1` of a frame the encoder makes is entry `k` of its list of bytes (R205, R452). -/
theorem frameByte_frame2Of (v : Variant) (st : ST) (k : Fin 19) :
    frameByte (frame2Of v st) k = (frameBytes v st)[k.val]'(by rw [frameBytes_length]; exact k.isLt) := by
  ext i hi
  have hk : k.val < (frameBytes v st).length := by rw [frameBytes_length]; exact k.isLt
  have hchar := concatBytes_getElem? (frameBytes v st) k.val i hi hk
  rw [← frame2Of_toList, Vector.getElem?_toList] at hchar
  simpa [frameByte] using Vector.getElem_eq_iff.mpr hchar

/-- The wire values of bytes 1 to 18 of a frame the encoder makes (R464). -/
theorem map_wval8_frameByte_frame2Of (v : Variant) (st : ST) :
    ((List.finRange 18).map fun k => wval8 (frameByte (frame2Of v st) (k.castLE (by omega)))) =
      (bytes1to18 v st).map wval8 := by
  simp only [frameByte_frame2Of]
  rfl

/-- Byte 19 of a frame the encoder makes, by its wire value, is the sum of those of bytes 1 to 18 modulo 256 (R464). -/
theorem wval8_checksumByte (v : Variant) (st : ST) :
    wval8 (frameByte (frame2Of v st) 18) =
      ((List.finRange 18).map fun k =>
        wval8 (frameByte (frame2Of v st) (k.castLE (by omega)))).sum % 256 := by
  have hbyte : frameByte (frame2Of v st) 18 = rev8 (bin8 (BitVec.ofNat 8 (checksum (bytes1to18 v st)))) :=
    frameByte_frame2Of v st 18
  rw [hbyte, map_wval8_frameByte_frame2Of, wval8_rev8_bin8, BitVec.toNat_ofNat]
  exact Nat.mod_mod _ _

end Sys2Proof.Machine
end

section
/-! What is in flight (R214, R602, R726): in a coherent state, and, as every run stays coherent, in every run. -/

namespace Sys2Proof.Machine

/-- Settles O59: the request is on SEG, SEG is of PT, PT is of FRAME2, and FRAME2 is the frame of a state. -/
theorem coherentBusyBlockEmitsAWholeFrame : Obligations.CoherentBusyBlockEmitsAWholeFrame := by
  intro s h hbusy
  obtain ⟨-, -, l, hseg, hhandles, n, -, hemission⟩ := h.inFlight hbusy
  obtain ⟨p, hpt, rfl, -⟩ := h.segs l hseg
  obtain ⟨f, hframe, rfl⟩ := h.train p hpt
  obtain ⟨st, rfl⟩ := h.frame f hframe
  exact ⟨st, n, hhandles, hemission, hframe, wval8_checksumByte _ _⟩

/-- Every run from a newly built block stays coherent. -/
theorem Reachable.coherent {s : State} (h : Reachable s) : Coherent s := by
  induction h with
  | start p moves a m => exact (newBlockIsCoherent p).withAgents moves a m
  | step s t _ ht ih => exact stepKeepsCoherence s t ih ht

/-- Settles O58, as every reachable state is coherent. -/
theorem everyTransmissionIsAWholeFrame : Obligations.EveryTransmissionIsAWholeFrame := by
  intro s h hbusy
  obtain ⟨st, -, hhandles, -, hframe, hsum⟩ := coherentBusyBlockEmitsAWholeFrame s h.coherent hbusy
  exact ⟨st, hhandles, hframe, hsum⟩

end Sys2Proof.Machine
end

section
/-! The port words read field by field (R104, R114), from the words' sums of fields at their weights. -/

namespace Sys2Proof.Machine

/-- A field of a word is what its bits amount to. -/
theorem extractLsb'_eq_of_toNat {w n : Nat} {v : BitVec w} {start : Nat} {x : BitVec n}
    (h : v.toNat / 2 ^ start % 2 ^ n = x.toNat) : v.extractLsb' start n = x :=
  BitVec.eq_of_toNat_eq (by rw [BitVec.extractLsb'_toNat, Nat.shiftRight_eq_div_pow, h])

/-! The codes of ST determine its fields, and none is one that is never held (R104, R108). -/

theorem Mode.code_injective : Function.Injective Mode.code :=
  fun _ _ h => Option.some.inj (by rw [← Mode.ofCode?_code, h, Mode.ofCode?_code])

theorem Dir.code_injective : Function.Injective Dir.code :=
  fun _ _ h => Option.some.inj (by rw [← Dir.ofCode?_code, h, Dir.ofCode?_code])

theorem Fan.code_injective : Function.Injective Fan.code :=
  fun _ _ h => Option.some.inj (by rw [← Fan.ofCode?_code, h, Fan.ofCode?_code])

theorem Temp.deg_injective : Function.Injective Temp.deg :=
  fun _ _ h => Option.some.inj (by rw [← Temp.ofCode?_deg, h, Temp.ofCode?_deg])

theorem Mode.code_ne_three (m : Mode) : m.code ≠ 3 := by cases m <;> decide

theorem Dir.code_le (d : Dir) : d.code.toNat ≤ 5 := by cases d <;> decide

theorem Fan.code_le (f : Fan) : (Fan.code f).toNat ≤ 5 := by revert f; decide

/-- The fields of the ST word, from bit 0 up; bits 15:14 are zero (R104). -/
theorem ST.word_fields (st : ST) :
    st.word.extractLsb' 0 1 = BitVec.ofBool st.power ∧ st.word.extractLsb' 1 2 = st.mode.code ∧
      st.word.extractLsb' 3 5 = st.temp.deg ∧ st.word.extractLsb' 8 3 = Fan.code st.fan ∧
      st.word.extractLsb' 11 3 = st.dir.code ∧ st.word.extractLsb' 14 2 = 0#2 := by
  have hpower := st.power.toNat_lt
  have hmode := st.mode.code.isLt
  have htemp := st.temp.deg.isLt
  have hfan := (Fan.code st.fan).isLt
  have hdir := st.dir.code.isLt
  refine ⟨?_, ?_, ?_, ?_, ?_, ?_⟩ <;> apply extractLsb'_eq_of_toNat <;>
    simp only [ST.word_toNat, BitVec.toNat_ofBool, BitVec.toNat_ofNat] <;> omega

/-- Two states with the same ST word are the same (R103, R104). -/
theorem ST.word_injective : Function.Injective ST.word := by
  intro x y h
  obtain ⟨hpower, hmode, htemp, hfan, hdir, -⟩ := x.word_fields
  obtain ⟨hpower', hmode', htemp', hfan', hdir', -⟩ := y.word_fields
  rw [h] at hpower hmode htemp hfan hdir
  cases x
  cases y
  simp only [ST.mk.injEq]
  exact ⟨BitVec.ofBool_eq_iff_eq.mp (hpower.symm.trans hpower'), Mode.code_injective (hmode.symm.trans hmode'),
    Temp.deg_injective (htemp.symm.trans htemp'), Fan.code_injective (hfan.symm.trans hfan'),
    Dir.code_injective (hdir.symm.trans hdir')⟩

/-- Settles O20: the fields are the codes, and the codes are in domain and determine the state. -/
theorem stWordShowsInDomainFields : Obligations.StWordShowsInDomainFields := by
  intro st
  obtain ⟨hpower, hmode, htemp, hfan, hdir, hzero⟩ := st.word_fields
  refine ⟨hpower, hmode.trans ?_, htemp, hfan, hdir.trans ?_, hzero, ?_, ?_, ?_, ?_, ?_, fun _ h => ST.word_injective h⟩
  · cases st.mode <;> rfl
  · cases st.dir <;> rfl
  · exact hmode ▸ st.mode.code_ne_three
  · exact htemp ▸ st.temp.inRange.left
  · exact htemp ▸ st.temp.inRange.right
  · exact hfan ▸ Fan.code_le st.fan
  · exact hdir ▸ st.dir.code_le

theorem TxRes.code_ne_three (r : TxRes) : r.code ≠ 3 := by cases r <;> decide

theorem ErrCode.code_le (e : ErrCode) : e.code.toNat ≤ 5 := by cases e <;> decide

/-- The fields of the STATUS word, from bit 0 up (R114). -/
theorem State.statusWord_fields (s : State) :
    s.statusWord.extractLsb' 0 1 = BitVec.ofBool s.status.busy ∧
      s.statusWord.extractLsb' 1 1 = BitVec.ofBool s.frame2Valid ∧
      s.statusWord.extractLsb' 2 1 = BitVec.ofBool s.ptValid ∧
      s.statusWord.extractLsb' 3 1 = BitVec.ofBool s.segValid ∧
      s.statusWord.extractLsb' 4 2 = s.status.txres.code ∧
      s.statusWord.extractLsb' 6 1 = BitVec.ofBool s.status.fault ∧
      s.statusWord.extractLsb' 8 4 = s.status.err.code := by
  have hbusy := s.status.busy.toNat_lt
  have hframe2 := s.frame2Valid.toNat_lt
  have hpt := s.ptValid.toNat_lt
  have hseg := s.segValid.toNat_lt
  have htxres := s.status.txres.code.isLt
  have hfault := s.status.fault.toNat_lt
  have herr := s.status.err.code.isLt
  refine ⟨?_, ?_, ?_, ?_, ?_, ?_, ?_⟩ <;> apply extractLsb'_eq_of_toNat <;>
    simp only [State.statusWord_toNat, BitVec.toNat_ofBool] <;> omega

/-- Bits 7 and 15:12 of the STATUS word are zero (R114): the mask 0xF080, cut along the word's fields, is zero at every field
that holds something. -/
theorem State.statusWord_reserved (s : State) : s.statusWord &&& 0xF080 = 0 := by
  change 0#4 ++ s.status.err.code ++ 0#1 ++ BitVec.ofBool s.status.fault ++ s.status.txres.code ++
      BitVec.ofBool s.segValid ++ BitVec.ofBool s.ptValid ++ BitVec.ofBool s.frame2Valid ++ BitVec.ofBool s.status.busy &&&
    0xF#4 ++ 0#4 ++ 1#1 ++ 0#1 ++ 0#2 ++ 0#1 ++ 0#1 ++ 0#1 ++ 0#1 = 0
  simp only [BitVec.and_append, BitVec.and_zero, BitVec.zero_and]
  rfl

/-- Settles O50: the fields are the flags and the codes, and no code is one that is never produced. -/
theorem statusWordHoldsOnlyProducedCodes : Obligations.StatusWordHoldsOnlyProducedCodes := by
  intro s
  obtain ⟨hbusy, hframe2, hpt, hseg, htxres, hfault, herr⟩ := s.statusWord_fields
  refine ⟨hbusy, hframe2.trans ?_, hpt.trans ?_, hseg.trans ?_, htxres.trans ?_, hfault, herr.trans ?_,
    s.statusWord_reserved, ?_, ?_⟩
  · unfold State.frame2Valid; cases s.frame2 <;> rfl
  · unfold State.ptValid; cases s.pt <;> rfl
  · unfold State.segValid; cases s.seg <;> rfl
  · cases s.status.txres <;> rfl
  · cases s.status.err <;> rfl
  · exact htxres ▸ s.status.txres.code_ne_three
  · exact herr ▸ s.status.err.code_le

/-! The ports (R123, R211). -/

theorem ST.word_reset : ST.reset.word = 0x00C8 := by decide

theorem State.statusWord_built (p : Params) : (State.built p).statusWord = 0x0000 :=
  BitVec.eq_of_toNat_eq (State.statusWord_toNat _)

/-- Settles O10: the two words of the reset state, and no buffer or handle. -/
theorem newBlockIsInTheResetState : Obligations.NewBlockIsInTheResetState := by
  intro p
  refine ⟨?_, ?_, rfl, rfl, rfl, rfl, rfl⟩
  · exact congrArg (fun w => Except.ok (PortValue.word w)) ST.word_reset
  · exact congrArg (fun w => Except.ok (PortValue.word w)) (State.statusWord_built p)

/-- Settles O55: the register ports as they are defined, a buffer port by whether the buffer holds a value. -/
theorem portsReadWholeBuffersOrNothing : Obligations.PortsReadWholeBuffersOrNothing := by
  intro s
  refine ⟨rfl, rfl, ?_, ?_, ?_⟩ <;> unfold State.readPort
  · cases s.frame2 <;> rfl
  · cases s.pt <;> rfl
  · cases s.seg <;> rfl

end Sys2Proof.Machine
end

section
/-! Who writes ST, TXRES, FAULT and ERR (R103, R116, R117): each shared operation first, then each command, then a step. -/

namespace Sys2Proof.Machine

@[simp] theorem engineMove_st (s : State) : s.engineMove.st = s.st := by
  rcases engineMove_cases s with ⟨us, -, h⟩ | ⟨c, -, h⟩ <;> simp [h]

@[simp] theorem engineMove_fault (s : State) : s.engineMove.status.fault = s.status.fault := by
  rcases engineMove_cases s with ⟨us, -, h⟩ | ⟨c, -, h⟩ <;> simp [h]

@[simp] theorem engineMove_err (s : State) : s.engineMove.status.err = s.status.err := by
  rcases engineMove_cases s with ⟨us, -, h⟩ | ⟨c, -, h⟩ <;> simp [h]

/-- Settles O52: the engine's moves leave FAULT and ERR, and a faulted block ignores every word (R711). -/
theorem firstFaultStaysUntilReset : Obligations.FirstFaultStaysUntilReset := by
  intro s t hfault ht hnoReset
  rcases step_next_cases ht with ⟨-, rfl⟩ | ⟨-, w, rest, -, hw⟩ | ⟨hidle, rest, hhost, -⟩
  · exact ⟨by simpa using hfault, engineMove_err s⟩
  · rcases acceptWord_next_cases hw with ⟨-, rfl⟩ | ⟨hsafe, -⟩ | ⟨hsafe, -⟩
    · exact ⟨hfault, rfl⟩
    · simp [hfault] at hsafe
    · simp [hfault] at hsafe
  · simp [hidle, hhost] at hnoReset

/-! ST (R103). -/

@[simp] theorem convertStep_st (s : State) : s.convertStep.state.st = s.st := by
  rcases convertStep_state s with ⟨-, h⟩ | ⟨f, -, h⟩ <;> simp [h]

@[simp] theorem synthStep_st (s : State) : s.synthStep.state.st = s.st := by
  rcases synthStep_state s with ⟨-, h⟩ | ⟨p, -, -, h⟩ | ⟨p, -, -, h⟩ <;> simp [h]

@[simp] theorem transmitStep_st (s : State) : s.transmitStep.state.st = s.st := by
  rcases transmitStep_state s with ⟨-, h⟩ | ⟨l, -, -, h⟩ | ⟨l, -, -, h⟩ <;> simp [h]

/-- SEND never changes ST (R611). -/
theorem execSend_st {s t : State} (ht : execSend s = .next t) : t.st = s.st := by
  rcases execSend_cases s with ⟨-, h⟩ | ⟨-, h⟩ <;> rw [h] at ht <;> cases ht <;> simp

/-- A setter's body changes ST only where its operand stands for a value (R402 to R406, R703). -/
theorem isSome_of_setField_st_ne {α : Type} {value? : Option α} {upd : α → ST} {s : State}
    (h : (setField value? upd s).state.st ≠ s.st) : value?.isSome = true := by
  rcases setField_state value? upd s with ⟨x, hx, -⟩ | ⟨-, hx⟩
  · simp [hx]
  · simp [hx] at h

/-! An operand stands for a value exactly where it is in the domain of R304. -/

theorem Mode.isSome_ofCode? (m : BitVec 2) : (Mode.ofCode? m).isSome = (Instr.setmode m).inDomain := by revert m; decide

theorem Temp.isSome_ofCode? (t : BitVec 5) : (Temp.ofCode? t).isSome = (Instr.settemp t).inDomain := by revert t; decide

theorem Fan.isSome_ofCode? (f : BitVec 3) : (Fan.ofCode? f).isSome = (Instr.setfan f).inDomain := by revert f; decide

theorem Dir.isSome_ofCode? (d : BitVec 3) : (Dir.ofCode? d).isSome = (Instr.setdir d).inDomain := by revert d; decide

/-- The five commands that write a field of ST (R402 to R406). -/
def IsSetter (i : Instr) : Prop :=
  (∃ v, i = .setpwr v) ∨ (∃ m, i = .setmode m) ∨ (∃ x, i = .settemp x) ∨ (∃ f, i = .setfan f) ∨ (∃ d, i = .setdir d)

/-- A command that changes ST is a setter with an operand in its domain (R103, R108). -/
theorem exec_st_ne {i : Instr} {s t : State} (ht : exec i s = .next t) (hne : t.st ≠ s.st) :
    i.inDomain = true ∧ IsSetter i := by
  cases i with
  | setpwr v => exact ⟨rfl, .inl ⟨v, rfl⟩⟩
  | setmode m =>
    cases ht
    exact ⟨Mode.isSome_ofCode? m ▸ isSome_of_setField_st_ne hne, .inr (.inl ⟨m, rfl⟩)⟩
  | settemp x =>
    cases ht
    exact ⟨Temp.isSome_ofCode? x ▸ isSome_of_setField_st_ne hne, .inr (.inr (.inl ⟨x, rfl⟩))⟩
  | setfan f =>
    cases ht
    exact ⟨Fan.isSome_ofCode? f ▸ isSome_of_setField_st_ne hne, .inr (.inr (.inr (.inl ⟨f, rfl⟩)))⟩
  | setdir d =>
    cases ht
    exact ⟨Dir.isSome_ofCode? d ▸ isSome_of_setField_st_ne hne, .inr (.inr (.inr (.inr ⟨d, rfl⟩)))⟩
  | encode => cases ht; exact absurd rfl hne
  | convert => cases ht; exact absurd (convertStep_st s) hne
  | synth => cases ht; exact absurd (synthStep_st s) hne
  | transmit => cases ht; exact absurd (transmitStep_st s) hne
  | send => exact absurd (execSend_st ht) hne

/-- Settles O53: of the moves of a step only reset and a word performed write ST, and of the commands only a setter. -/
theorem onlySettersAndResetWriteSt : Obligations.OnlySettersAndResetWriteSt := by
  intro s t ht hne
  rcases step_next_cases ht with ⟨-, rfl⟩ | ⟨hidle, w, rest, hhost, hw⟩ | ⟨hidle, rest, hhost, -⟩
  · exact absurd (engineMove_st s) hne
  · rcases acceptWord_next_cases hw with ⟨-, rfl⟩ | ⟨-, rfl⟩ | ⟨-, i, hi, hexec⟩
    · exact absurd rfl hne
    · exact absurd (State.raise_st _ _) hne
    · exact ⟨hidle, .inr ⟨w, i, by simp [hhost], hi, exec_st_ne hexec hne⟩⟩
  · exact ⟨hidle, .inl (by simp [hhost])⟩

/-! TXRES (R116). -/

@[simp] theorem setField_txres {α : Type} (value? : Option α) (upd : α → ST) (s : State) :
    (setField value? upd s).state.status.txres = s.status.txres := by
  rcases setField_state value? upd s with ⟨x, -, h⟩ | ⟨-, h⟩ <;> simp [h]

@[simp] theorem convertStep_txres (s : State) : s.convertStep.state.status.txres = s.status.txres := by
  rcases convertStep_state s with ⟨-, h⟩ | ⟨f, -, h⟩ <;> simp [h]

@[simp] theorem synthStep_txres (s : State) : s.synthStep.state.status.txres = s.status.txres := by
  rcases synthStep_state s with ⟨-, h⟩ | ⟨p, -, -, h⟩ | ⟨p, -, -, h⟩ <;> simp [h]

/-- A command that changes TXRES is TRANSMIT or SEND (R116). -/
theorem exec_txres_ne {i : Instr} {s t : State} (ht : exec i s = .next t) (hne : t.status.txres ≠ s.status.txres) :
    i = .transmit ∨ i = .send := by
  cases i with
  | setpwr _ | setmode _ | settemp _ | setfan _ | setdir _ => cases ht; exact absurd (setField_txres _ _ s) hne
  | encode => cases ht; exact absurd rfl hne
  | convert => cases ht; exact absurd (convertStep_txres s) hne
  | synth => cases ht; exact absurd (synthStep_txres s) hne
  | transmit => exact .inl rfl
  | send => exact .inr rfl

/-- A move of the engine that changes TXRES is a completion report (R605, R727). -/
theorem engineMove_txres_ne {s : State} (hne : s.engineMove.status.txres ≠ s.status.txres) :
    ∃ c, s.engine.move = .report c := by
  rcases engineMove_cases s with ⟨us, -, h⟩ | ⟨c, hc, -⟩
  · rw [h] at hne
    exact absurd rfl hne
  · exact ⟨c, hc⟩

/-- Settles O54, by the cases of a step: a completion, a word that is TRANSMIT or SEND, and reset write TXRES. -/
theorem onlyTransmissionAndResetWriteTxres : Obligations.OnlyTransmissionAndResetWriteTxres := by
  intro s t ht hne
  rcases step_next_cases ht with ⟨hbusy, rfl⟩ | ⟨hidle, w, rest, hhost, hw⟩ | ⟨hidle, rest, hhost, -⟩
  · exact .inl ⟨hbusy, engineMove_txres_ne hne⟩
  · rcases acceptWord_next_cases hw with ⟨-, rfl⟩ | ⟨-, rfl⟩ | ⟨-, i, hi, hexec⟩
    · exact absurd rfl hne
    · exact absurd (State.raise_txres _ _) hne
    · refine .inr (.inr ⟨w, hidle, by simp [hhost], ?_⟩)
      rcases exec_txres_ne hexec hne with rfl | rfl
      · exact .inl hi
      · exact .inr hi
  · exact .inr (.inl ⟨hidle, by simp [hhost]⟩)

end Sys2Proof.Machine
end

section
/-! Decoding and encoding (R302, R305, R307). What a word reads as, by its opcode and operand, is said apart from whether its
must-be-zero bits are 0: the encoder and the decoder are then each one lemma about the two. -/

namespace Sys2Proof

/-! Words cut into fields. -/

/-- A word is the concatenation of two fields exactly if it reads as them. -/
theorem append_eq_iff_extractLsb' {m n : Nat} (hi : BitVec m) (lo : BitVec n) (w : BitVec (m + n)) :
    hi ++ lo = w ↔ w.extractLsb' n m = hi ∧ w.extractLsb' 0 n = lo := by
  constructor
  · rintro rfl
    exact ⟨BitVec.extractLsb'_append_eq_left, BitVec.extractLsb'_append_eq_right⟩
  · rintro ⟨rfl, rfl⟩
    rw [BitVec.extractLsb'_append_extractLsb'_eq_extractLsb' (Nat.zero_add n).symm, BitVec.extractLsb'_eq_self]

/-- A word is the concatenation of three fields exactly if it reads as them. -/
theorem append_append_eq_iff_extractLsb' {k z n : Nat} (op : BitVec k) (zeros : BitVec z) (x : BitVec n)
    (w : BitVec (k + z + n)) :
    op ++ zeros ++ x = w ↔ (w.extractLsb' (n + z) k = op ∧ w.extractLsb' 0 n = x) ∧ w.extractLsb' n z = zeros := by
  constructor
  · rintro rfl
    refine ⟨⟨?_, BitVec.extractLsb'_append_eq_right⟩, ?_⟩
    · simp [BitVec.extractLsb'_append_eq_of_le]
    · simp [BitVec.extractLsb'_append_eq_of_le, BitVec.extractLsb'_append_eq_right]
  · rintro ⟨⟨rfl, rfl⟩, rfl⟩
    rw [BitVec.extractLsb'_append_extractLsb'_eq_extractLsb' rfl,
      BitVec.extractLsb'_append_extractLsb'_eq_extractLsb' (Nat.zero_add n).symm, BitVec.extractLsb'_eq_self]

/-- The bits from bit `n` up to bit 11 are 0 exactly if the mask of these bits finds none of them set. -/
theorem and_mask_eq_zero_iff (w : Word) (n : Nat) :
    w &&& ((BitVec.allOnes (12 - n)).setWidth 16 <<< n) = 0 ↔ w.extractLsb' n (12 - n) = 0 := by
  constructor <;> intro h
  · ext i hi
    have hbit : (w &&& ((BitVec.allOnes (12 - n)).setWidth 16 <<< n)).getLsbD (n + i) = false := by simp [h]
    grind
  · ext i hi
    have hbit : (w.extractLsb' n (12 - n)).getLsbD (i - n) = false := by simp [h]
    grind

/-- The opcode is what is left of the word above its operand field (R301). -/
theorem ushiftRight_eq_opcodeOf (w : Word) : w >>> 12 = (opcodeOf w).setWidth 16 := by
  apply BitVec.eq_of_toNat_eq
  simp only [opcodeOf, BitVec.toNat_ushiftRight, BitVec.toNat_setWidth, BitVec.extractLsb'_toNat]
  omega

/-! What a word reads as. -/

/-- The opcode and the operand of `w` are those of the command, whatever the bits between them (R302, R303). -/
def ReadsAs (w : Word) : Instr → Prop
  | .setpwr v => opcodeOf w = 0x1 ∧ w.extractLsb' 0 1 = v
  | .setmode m => opcodeOf w = 0x2 ∧ w.extractLsb' 0 2 = m
  | .settemp t => opcodeOf w = 0x3 ∧ w.extractLsb' 0 5 = t
  | .setfan f => opcodeOf w = 0x4 ∧ w.extractLsb' 0 3 = f
  | .setdir d => opcodeOf w = 0x5 ∧ w.extractLsb' 0 3 = d
  | .encode => opcodeOf w = 0x8
  | .convert => opcodeOf w = 0x9
  | .synth => opcodeOf w = 0xA
  | .transmit => opcodeOf w = 0xB
  | .send => opcodeOf w = 0xC

/-- How many operand bits a command's word has (R302). -/
def Instr.operandBits : Instr → Nat
  | .setpwr _ => 1
  | .setmode _ => 2
  | .settemp _ => 5
  | .setfan _ | .setdir _ => 3
  | .encode | .convert | .synth | .transmit | .send => 0

/-- The bits of `w` that the command's row of R302 marks 0: those between the operand and the opcode (R305). -/
def mustBeZero (w : Word) (i : Instr) : BitVec (12 - i.operandBits) := w.extractLsb' i.operandBits (12 - i.operandBits)

/-- The opcodes that no row of R302 has (R305). -/
def reservedOpcodes : List (BitVec 4) := [0x0, 0x6, 0x7, 0xD, 0xE, 0xF]

/-- Every word has a reserved opcode or reads as a command (R302, R305). -/
theorem reserved_or_readsAs (w : Word) : opcodeOf w ∈ reservedOpcodes ∨ ∃ i, ReadsAs w i := by
  have opcodes : ∀ op : BitVec 4, op ∈ reservedOpcodes ∨ op = 0x1 ∨ op = 0x2 ∨ op = 0x3 ∨ op = 0x4 ∨ op = 0x5 ∨
      op = 0x8 ∨ op = 0x9 ∨ op = 0xA ∨ op = 0xB ∨ op = 0xC := by decide
  rcases opcodes (opcodeOf w) with h | h | h | h | h | h | h | h | h | h | h
  · exact .inl h
  · exact .inr ⟨.setpwr _, h, rfl⟩
  · exact .inr ⟨.setmode _, h, rfl⟩
  · exact .inr ⟨.settemp _, h, rfl⟩
  · exact .inr ⟨.setfan _, h, rfl⟩
  · exact .inr ⟨.setdir _, h, rfl⟩
  · exact .inr ⟨.encode, h⟩
  · exact .inr ⟨.convert, h⟩
  · exact .inr ⟨.synth, h⟩
  · exact .inr ⟨.transmit, h⟩
  · exact .inr ⟨.send, h⟩

/-- A word is a command's word exactly if it reads as the command and its must-be-zero bits are 0 (R302). -/
theorem encode_eq_iff (i : Instr) (w : Word) : encode i = w ↔ ReadsAs w i ∧ mustBeZero w i = 0 := by
  cases i with
  | setpwr v => exact append_append_eq_iff_extractLsb' 0x1#4 0#11 v w
  | setmode m => exact append_append_eq_iff_extractLsb' 0x2#4 0#10 m w
  | settemp t => exact append_append_eq_iff_extractLsb' 0x3#4 0#7 t w
  | setfan f => exact append_append_eq_iff_extractLsb' 0x4#4 0#9 f w
  | setdir d => exact append_append_eq_iff_extractLsb' 0x5#4 0#9 d w
  | encode => exact append_eq_iff_extractLsb' 0x8#4 0#12 w
  | convert => exact append_eq_iff_extractLsb' 0x9#4 0#12 w
  | synth => exact append_eq_iff_extractLsb' 0xA#4 0#12 w
  | transmit => exact append_eq_iff_extractLsb' 0xB#4 0#12 w
  | send => exact append_eq_iff_extractLsb' 0xC#4 0#12 w

/-- A word whose opcode no row of R302 has is illegal for that (R305). -/
theorem decode_of_reserved {w : Word} (h : opcodeOf w ∈ reservedOpcodes) : decode w = .illegal .reservedOpcode := by
  simp only [reservedOpcodes, List.mem_cons, List.not_mem_nil, or_false] at h
  rcases h with h | h | h | h | h | h <;> simp [decode, h]

/-- A word that reads as a command decodes to it, unless a must-be-zero bit is set (R305, R307). -/
theorem decode_of_readsAs {w : Word} {i : Instr} (h : ReadsAs w i) : decode w = whenZero (mustBeZero w i) i := by
  cases i with
  | setpwr _ | setmode _ | settemp _ | setfan _ | setdir _ =>
    obtain ⟨hop, rfl⟩ := h
    simp only [decode, hop]
    rfl
  | encode | convert | synth | transmit | send =>
    have hop : opcodeOf w = _ := h
    simp only [decode, hop]
    rfl

/-- The check of R305 answers the command exactly if the bits are 0. -/
theorem whenZero_eq_command_iff {n : Nat} {zeros : BitVec n} {i j : Instr} :
    whenZero zeros i = .command j ↔ zeros = 0 ∧ i = j := by
  unfold whenZero
  split <;> simp_all

/-- The check of R305 answers illegal exactly if one of the bits is set. -/
theorem whenZero_eq_illegal_iff {n : Nat} {zeros : BitVec n} {i : Instr} :
    (∃ why, whenZero zeros i = .illegal why) ↔ zeros ≠ 0 := by
  unfold whenZero
  split <;> simp_all

/-- The decoder reads back a command's word, which reads as the command with its must-be-zero bits 0 (R302, R307). -/
theorem decode_encode (i : Instr) : decode (encode i) = .command i := by
  obtain ⟨hreads, hzero⟩ := (encode_eq_iff i _).1 rfl
  exact (decode_of_readsAs hreads).trans (whenZero_eq_command_iff.2 ⟨hzero, rfl⟩)

/-- Settles O1. -/
theorem decodeReadsBackEveryCommand : Obligations.DecodeReadsBackEveryCommand := decode_encode

/-- Settles O2: only a word that reads as a command decodes to one, and then every bit of it was read or is 0. -/
theorem decodedWordIsTheCommandsWord : Obligations.DecodedWordIsTheCommandsWord := by
  intro w i hi
  rcases reserved_or_readsAs w with hop | ⟨j, hreads⟩
  · cases (decode_of_reserved hop).symm.trans hi
  · obtain ⟨hzero, rfl⟩ := whenZero_eq_command_iff.1 ((decode_of_readsAs hreads).symm.trans hi)
    exact (encode_eq_iff j w).2 ⟨hreads, hzero⟩

/-- Settles O3, by what the word reads as: a reserved opcode is illegal at once, and the word that reads as a command is illegal
exactly if its row's mask finds a bit set. -/
theorem illegalWordsAreTheReservedOnes : Obligations.IllegalWordsAreTheReservedOnes := by
  intro w
  simp only [ushiftRight_eq_opcodeOf]
  rcases reserved_or_readsAs w with hop | ⟨i, hreads⟩
  · refine iff_of_true ⟨_, decode_of_reserved hop⟩ (.inl ?_)
    exact List.mem_map_of_mem (f := BitVec.setWidth 16) hop
  · rw [decode_of_readsAs hreads, whenZero_eq_illegal_iff, mustBeZero, ne_eq, ← and_mask_eq_zero_iff]
    cases i with
    | setpwr _ | setmode _ | settemp _ | setfan _ | setdir _ => simp [hreads.1, Instr.operandBits]
    | encode | convert | synth | transmit | send =>
      have hop : opcodeOf w = _ := hreads
      simp [hop, Instr.operandBits]

/-- Settles O4: the legal words are words of commands, and 0x1003 has bit 1 set. -/
theorem workedWordsDecodeAsGiven : Obligations.WorkedWordsDecodeAsGiven :=
  ⟨decode_encode (.setpwr 1), decode_encode (.setmode 2), decode_encode (.settemp 25), decode_encode (.setfan 5),
    decode_encode (.setdir 3), decode_encode .send, by decide, decode_encode (.settemp 31), rfl⟩

end Sys2Proof
end

section
/-! The word of a setter (R302): its opcode's word with the operand in the low bits. -/

namespace Sys2Proof

/-- An opcode, zeros and an operand make the opcode's word with the operand set in its low bits. -/
theorem append_zeros_append_eq_or {k z n : Nat} (op : BitVec k) (x : BitVec n) :
    op ++ 0#z ++ x = (op ++ 0#z ++ 0#n) ||| x.setWidth (k + z + n) := by
  have hx : x.setWidth (k + z + n) = 0#(k + z) ++ x :=
    BitVec.eq_of_toNat_eq (by rw [BitVec.toNat_setWidth_of_le (by omega), Machine.append_toNat]; simp)
  rw [hx, BitVec.or_append, BitVec.or_zero, BitVec.zero_or]

theorem decode_of_encode_eq {i : Instr} {w : Word} (h : encode i = w) : decode w = .command i :=
  h ▸ decode_encode i

end Sys2Proof
end

section
/-! The fields of the ST word (R104), written one at a time. -/

namespace Sys2Proof.Machine

/-- `w` with `x` in the field at `pos`: the field masked out, and `x` set there. -/
def replaceField {n : Nat} (w : Word) (pos : Nat) (x : BitVec n) : Word :=
  (w &&& ~~~((BitVec.allOnes n).setWidth 16 <<< pos)) ||| (x.setWidth 16 <<< pos)

/-- A field replaced by itself leaves the word as it is. -/
theorem replaceField_extractLsb' (w : Word) (pos n : Nat) : replaceField w pos (w.extractLsb' pos n) = w := by
  unfold replaceField
  ext i hi
  grind

/-- The new field adds its value, at its weight, to what the mask leaves. -/
theorem replaceField_toNat {n pos : Nat} (w : Word) (x : BitVec n) (hpos : pos + n ≤ 16) :
    (replaceField w pos x).toNat =
      (w &&& ~~~((BitVec.allOnes n).setWidth 16 <<< pos)).toNat + x.toNat * 2 ^ pos := by
  have hdisjoint : (w &&& ~~~((BitVec.allOnes n).setWidth 16 <<< pos)) &&& (x.setWidth 16 <<< pos) = 0 := by
    ext i hi
    grind
  have hfit : x.toNat * 2 ^ pos < 2 ^ 16 := calc
    x.toNat * 2 ^ pos < 2 ^ n * 2 ^ pos := Nat.mul_lt_mul_of_pos_right x.isLt (Nat.two_pow_pos pos)
    _ = 2 ^ (pos + n) := by rw [← Nat.pow_add, Nat.add_comm]
    _ ≤ 2 ^ 16 := Nat.pow_le_pow_right (by decide) hpos
  rw [replaceField, ← BitVec.add_eq_or_of_and_eq_zero _ _ hdisjoint, BitVec.toNat_add_of_and_eq_zero hdisjoint,
    BitVec.toNat_shiftLeft, BitVec.toNat_setWidth_of_le (by omega), Nat.shiftLeft_eq, Nat.mod_eq_of_lt hfit]

/-- A word is `w` with one field replaced if the two differ in value by what that field's values differ, at its weight. -/
theorem eq_replaceField_of_toNat {w w' : Word} {n pos : Nat} {old new : BitVec n} (hpos : pos + n ≤ 16)
    (hold : w.extractLsb' pos n = old) (hsum : w'.toNat + old.toNat * 2 ^ pos = w.toNat + new.toNat * 2 ^ pos) :
    w' = replaceField w pos new := by
  subst hold
  have hkept := replaceField_toNat w (w.extractLsb' pos n) hpos
  have hnew := replaceField_toNat w new hpos
  rw [replaceField_extractLsb'] at hkept
  exact BitVec.eq_of_toNat_eq (by omega)

theorem ST.word_power (st : ST) (p : Bool) :
    { st with power := p }.word = replaceField st.word 0 (BitVec.ofBool p) := by
  obtain ⟨hpower, -⟩ := st.word_fields
  exact eq_replaceField_of_toNat (by decide) hpower (by simp only [ST.word_toNat, BitVec.toNat_ofBool]; omega)

theorem ST.word_mode (st : ST) (m : Mode) : { st with mode := m }.word = replaceField st.word 1 m.code := by
  obtain ⟨-, hmode, -⟩ := st.word_fields
  exact eq_replaceField_of_toNat (by decide) hmode (by simp only [ST.word_toNat]; omega)

theorem ST.word_temp (st : ST) (t : Temp) : { st with temp := t }.word = replaceField st.word 3 t.deg := by
  obtain ⟨-, -, htemp, -⟩ := st.word_fields
  exact eq_replaceField_of_toNat (by decide) htemp (by simp only [ST.word_toNat]; omega)

theorem ST.word_fan (st : ST) (f : Fan) : { st with fan := f }.word = replaceField st.word 8 (Fan.code f) := by
  obtain ⟨-, -, -, hfan, -⟩ := st.word_fields
  exact eq_replaceField_of_toNat (by decide) hfan (by simp only [ST.word_toNat]; omega)

theorem ST.word_dir (st : ST) (d : Dir) : { st with dir := d }.word = replaceField st.word 11 d.code := by
  obtain ⟨-, -, -, -, hdir, -⟩ := st.word_fields
  exact eq_replaceField_of_toNat (by decide) hdir (by simp only [ST.word_toNat]; omega)

/-! No byte of a variant-B frame depends on FAN or DIR (R463). -/

theorem frame2Of_B_fan (st : ST) (f : Fan) : frame2Of .B { st with fan := f } = frame2Of .B st := rfl

theorem frame2Of_B_dir (st : ST) (d : Dir) : frame2Of .B { st with dir := d } = frame2Of .B st := rfl

end Sys2Proof.Machine
end

section
/-! The setters (R402 to R407): what their shared body answers and leaves, then each one on its own field. -/

namespace Sys2Proof.Machine

/-- The first fault writes FAULT and ERR, and nothing else (R705). -/
theorem State.raise_of_safe (e : ErrCode) {s : State} (hsafe : s.status.fault = false) :
    s.raise e = { s with status := { s.status with fault := true, err := e } } := by
  simp [State.raise, hsafe]

/-- A setter whose operand stands for a value writes ST, and nothing else (R402 to R406). -/
theorem setField_outcome_of_eq_some {α : Type} {value? : Option α} {x : α} (hx : value? = some x) (upd : α → ST)
    (s : State) : (setField value? upd s).outcome = .next { s with st := upd x } := by
  rw [hx]
  rfl

/-- A setter whose operand stands for no value raises DOMAIN_VIOLATION, and writes nothing else (R403 to R406, R703). -/
theorem setField_outcome_of_eq_none {α : Type} {value? : Option α} (hnone : value? = none) (upd : α → ST) {s : State}
    (hsafe : s.status.fault = false) :
    (setField value? upd s).outcome =
      .next { s with status := { s.status with fault := true, err := .domainViolation } } := by
  rw [hnone, ← State.raise_of_safe _ hsafe]
  rfl

/-- Whether it writes its field or raises the fault, a setter leaves everything but ST, FAULT and ERR (R407). -/
theorem setField_frame {α : Type} (value? : Option α) (upd : α → ST) (s : State) :
    ∃ t, (setField value? upd s).outcome = .next t ∧ t.frame2 = s.frame2 ∧ t.pt = s.pt ∧ t.seg = s.seg ∧
      t.status.busy = s.status.busy ∧ t.status.txres = s.status.txres ∧ t.engine = s.engine ∧ t.params = s.params ∧
      t.host = s.host := by
  refine ⟨_, rfl, ?_⟩
  rcases setField_state value? upd s with ⟨x, -, h⟩ | ⟨-, h⟩ <;> simp [h]

/-- Settles O19: each of the five is the shared body, on its own operand and field. -/
theorem settersLeaveEverythingElse : Obligations.SettersLeaveEverythingElse := by
  rintro i s (⟨v, rfl⟩ | ⟨m, rfl⟩ | ⟨x, rfl⟩ | ⟨f, rfl⟩ | ⟨d, rfl⟩) <;> exact setField_frame _ _ s

/-- The power an operand stands for has that operand as its code (R304). -/
theorem ofBool_powerOfCode (v : BitVec 1) : BitVec.ofBool (powerOfCode v) = v := by revert v; decide

/-- Settles O13: both operands stand for a power, which is written at bit 0. -/
theorem setPwrWritesThePowerField : Obligations.SetPwrWritesThePowerField := by
  intro v s
  refine ⟨decode_of_encode_eq (append_zeros_append_eq_or 0x1#4 v), _, rfl, ?_⟩
  have hword := ST.word_power s.st (powerOfCode v)
  rwa [ofBool_powerOfCode, replaceField, BitVec.shiftLeft_zero, BitVec.shiftLeft_zero] at hword

/-- Settles O14: an operand is the code of a mode, written at bit 1, or it is 3. -/
theorem setModeWritesTheModeField : Obligations.SetModeWritesTheModeField := by
  intro m s
  refine ⟨decode_of_encode_eq (append_zeros_append_eq_or 0x2#4 m), ?_⟩
  rcases Mode.ofCode?_spec m with ⟨x, hx, rfl⟩ | ⟨hnone, rfl⟩
  · exact ⟨fun _ => ⟨_, setField_outcome_of_eq_some hx _ s, ST.word_mode s.st x⟩, fun h => absurd h x.code_ne_three⟩
  · exact ⟨fun h => absurd rfl h, fun _ hsafe => setField_outcome_of_eq_none hnone _ hsafe⟩

/-- Settles O15: an operand is a temperature, written at bit 3, or it is outside 16 to 30. -/
theorem setTempWritesTheTempField : Obligations.SetTempWritesTheTempField := by
  intro t s
  refine ⟨decode_of_encode_eq (append_zeros_append_eq_or 0x3#4 t), ?_⟩
  rcases Temp.ofCode?_spec t with ⟨x, hx, rfl⟩ | ⟨hnone, hout⟩
  · refine ⟨fun _ _ => ⟨_, setField_outcome_of_eq_some hx _ s, ST.word_temp s.st x⟩, fun hout => ?_⟩
    exact absurd x.inRange (by omega)
  · exact ⟨fun hlow hhigh => absurd ⟨hlow, hhigh⟩ hout, fun _ hsafe => setField_outcome_of_eq_none hnone _ hsafe⟩

/-- Settles O16: an operand is the code of a fan value, written at bit 8, or it is 6 or 7. -/
theorem setFanWritesTheFanField : Obligations.SetFanWritesTheFanField := by
  intro f s
  refine ⟨decode_of_encode_eq (append_zeros_append_eq_or 0x4#4 f), ?_⟩
  rcases Fan.ofCode?_spec f with ⟨x, hx, rfl⟩ | ⟨hnone, hout⟩
  · exact ⟨fun _ => ⟨_, setField_outcome_of_eq_some hx _ s, ST.word_fan s.st x, frame2Of_B_fan s.st x⟩,
      fun hout => absurd (Fan.code_le x) (Nat.not_le.2 hout)⟩
  · exact ⟨fun hin => absurd hin (Nat.not_le.2 hout), fun _ hsafe => setField_outcome_of_eq_none hnone _ hsafe⟩

/-- Settles O17: an operand is the code of a direction, written at bit 11, or it is 6 or 7. -/
theorem setDirWritesTheDirField : Obligations.SetDirWritesTheDirField := by
  intro d s
  refine ⟨decode_of_encode_eq (append_zeros_append_eq_or 0x5#4 d), ?_⟩
  rcases Dir.ofCode?_spec d with ⟨x, hx, rfl⟩ | ⟨hnone, hout⟩
  · exact ⟨fun _ => ⟨_, setField_outcome_of_eq_some hx _ s, ST.word_dir s.st x, frame2Of_B_dir s.st x⟩,
      fun hout => absurd x.code_le (Nat.not_le.2 hout)⟩
  · exact ⟨fun hin => absurd hin (Nat.not_le.2 hout), fun _ hsafe => setField_outcome_of_eq_none hnone _ hsafe⟩

end Sys2Proof.Machine
end

section
/-! One step on a command word (R401). -/

namespace Sys2Proof.Machine

/-- An idle block accepts the host's next word, which is then taken from the host's moves (R401). -/
theorem step_of_word {s : State} {w : Word} {rest : List HostMove} (hidle : s.status.busy = false)
    (hhost : s.host = .word w :: rest) : step s = acceptWord w { s with host := rest } := by
  simp only [step, State.nextMove, hidle, hhost]

/-- A block without a fault performs the command an accepted word decodes to (R401). -/
theorem acceptWord_of_command {w : Word} {s : State} {i : Instr} (hsafe : s.status.fault = false)
    (hi : decode w = .command i) : acceptWord w s = exec i s := by
  simp [acceptWord, hsafe, hi]

/-- Settles O5: the word is accepted, and as there is no fault its command is performed. -/
theorem stepRunsTheDecodedCommand : Obligations.StepRunsTheDecodedCommand :=
  fun _ _ _ _ hidle hsafe hhost hi => (step_of_word hidle hhost).trans (acceptWord_of_command hsafe hi)

end Sys2Proof.Machine
end

section
/-! Byte strings and the values they spell (R15). -/

namespace Sys2Proof.Machine

/-- Reversing a byte string reverses the bits of its value. -/
theorem rev8_bin8 (v : BitVec 8) : rev8 (bin8 v) = bin8 v.reverse := by
  ext i hi
  simp [BitVec.getLsbD_reverse, BitVec.getMsbD_eq_getLsbD]
  omega

theorem wval8_bin8 (v : BitVec 8) : wval8 (bin8 v) = v.reverse.toNat := by
  rw [wval8, rev8_bin8, val8_bin8]

theorem bin8_injective : Function.Injective bin8 := fun _ _ h =>
  BitVec.eq_of_toNat_eq (by rw [← val8_bin8, h, val8_bin8])

theorem rev8_injective : Function.Injective rev8 := Function.LeftInverse.injective rev8_rev8

end Sys2Proof.Machine
end

section
/-! The bytes of frame2 one by one (R452 to R464): the constant ones, then bytes 6, 7, 9 and 19 with the numbers they
carry. -/

namespace Sys2Proof.Machine

/-- The fifteen constant bytes, in the order of the frame (R453). -/
def constantBytes : List ByteStr :=
  [bin8 0b01000000, bin8 0b00000100, bin8 0b00000111, bin8 0b00100000, bin8 0b00000000, bin8 0b00000001,
   bin8 0b00000000, bin8 0b00000000, bin8 0b01100000, bin8 0b00000110, bin8 0b00000000, bin8 0b00000000,
   bin8 0b00000001, bin8 0b00000000, bin8 0b01101000]

theorem map_wval8_constantBytes : constantBytes.map wval8 =
    [0x02, 0x20, 0xE0, 0x04, 0x00, 0x80, 0x00, 0x00, 0x06, 0x60, 0x00, 0x00, 0x80, 0x00, 0x16] := by decide

theorem sum_wval8_constantBytes : (constantBytes.map wval8).sum = 642 := by
  rw [map_wval8_constantBytes]
  rfl

/-- Settles O22: the bytes at those fifteen places are the constant ones, whatever the variant and ST, and have their wire
values and sum. -/
theorem frameConstantBytes : Obligations.FrameConstantBytes := by
  intro v st
  have hbytes : ([0, 1, 2, 3, 4, 7, 9, 10, 11, 12, 13, 14, 15, 16, 17] : List (Fin 19)).map (frameByte (frame2Of v st)) =
      constantBytes := by
    simp only [List.map_cons, List.map_nil, frameByte_frame2Of]
    rfl
  have hwire := congrArg (List.map wval8) hbytes
  rw [List.map_map] at hwire
  exact ⟨hbytes, hwire.trans map_wval8_constantBytes, (congrArg List.sum hwire).trans sum_wval8_constantBytes⟩

theorem frameByte_b6 (v : Variant) (st : ST) : frameByte (frame2Of v st) 5 = bin8 (b6 st) := frameByte_frame2Of v st 5

theorem frameByte_b7 (v : Variant) (st : ST) : frameByte (frame2Of v st) 6 = rev8 (bin8 (b7 st)) :=
  frameByte_frame2Of v st 6

theorem frameByte_byte9 (v : Variant) (st : ST) : frameByte (frame2Of v st) 8 = byte9 v st := frameByte_frame2Of v st 8

theorem frameByte_checksum (v : Variant) (st : ST) :
    frameByte (frame2Of v st) 18 = rev8 (bin8 (BitVec.ofNat 8 (checksum (bytes1to18 v st)))) :=
  frameByte_frame2Of v st 18

/-- Settles O23: byte 6 is `b6`, in each of the six cases of power and mode. -/
theorem byte6EncodesPowerAndMode : Obligations.Byte6EncodesPowerAndMode := by
  intro v st
  rw [frameByte_b6, wval8_bin8, b6]
  cases st.power <;> cases st.mode <;> rfl

/-- The offset 16 of the temperature and the mark bit 32 of R456 cancel: what is left is twice the temperature (R457). -/
theorem b7_toNat (st : ST) : (b7 st).toNat = 2 * st.temp.deg.toNat := by
  have h : ∀ d : BitVec 5, 16 ≤ d.toNat → (0b00100000#8 ||| ((d.setWidth 8 - 16) <<< 1)).toNat = 2 * d.toNat := by decide
  exact h _ st.temp.inRange.left

/-- Settles O24: the wire value of byte 7 is `b7`, and halved it is 16 to 30, whose low four bits are 16 less. -/
theorem byte7EncodesTheTemperature : Obligations.Byte7EncodesTheTemperature := by
  intro v st
  obtain ⟨hlow, hhigh⟩ := st.temp.inRange
  have hwire : wval8 (frameByte (frame2Of v st) 6) = 2 * st.temp.deg.toNat := by
    rw [frameByte_b7, wval8_rev8_bin8, b7_toNat]
  refine ⟨hwire, ?_⟩
  rw [← wval8, hwire, Nat.shiftRight_one, Nat.and_two_pow_sub_one_eq_mod _ 4]
  omega

theorem fanNibble_lt (f : Fan) : (fanNibble f).toNat < 16 := by revert f; decide

theorem swingNibble_lt (d : Dir) : (swingNibble d).toNat < 16 := by cases d <;> decide

/-- The two nibbles of `b9` do not overlap (R462). -/
theorem b9_toNat (st : ST) : (b9 st).toNat = 16 * (fanNibble st.fan).toNat + (swingNibble st.dir).toNat := by
  have hfan := fanNibble_lt st.fan
  rw [b9, BitVec.toNat_or, BitVec.toNat_shiftLeft, Nat.shiftLeft_eq, Nat.mod_eq_of_lt (by omega), Nat.mul_comm,
    ← Nat.two_pow_add_eq_or_of_lt (swingNibble_lt st.dir)]

theorem wval8_byte9_A (st : ST) : wval8 (byte9 .A st) = (b9 st).toNat := wval8_rev8_bin8 (b9 st)

theorem wval8_byte9_B (st : ST) : wval8 (byte9 .B st) = 0xA1 := wval8_bin8 0b10000101

/-- Settles O25: the wire value of byte 9 is `b9`, whose nibbles are those of the two tables. -/
theorem byte9OfVariantAHoldsFanAndSwing : Obligations.Byte9OfVariantAHoldsFanAndSwing := by
  intro st
  rw [frameByte_byte9, wval8_byte9_A, b9_toNat]
  congr 2
  · generalize st.fan = f
    revert f
    decide
  · cases st.dir <;> rfl

/-- Settles O26: byte 9 is a constant, and neither field is read for any other byte. -/
theorem variantBIgnoresFanAndDir : Obligations.VariantBIgnoresFanAndDir := fun st =>
  ⟨frameByte_byte9 .B st, (congrArg wval8 (frameByte_byte9 .B st)).trans (wval8_byte9_B st),
    fun f d => (frame2Of_B_dir { st with fan := f } d).trans (frame2Of_B_fan st f)⟩

/-- Bytes 1 to 18 are, up to order, bytes 6, 7 and 9 and the constant ones (R452). -/
theorem bytes1to18_perm (v : Variant) (st : ST) :
    (bytes1to18 v st).Perm (bin8 (b6 st) :: rev8 (bin8 (b7 st)) :: byte9 v st :: constantBytes) :=
  List.perm_middle (l₁ := constantBytes.take 5) |>.trans <| .cons _ <|
    List.perm_middle (l₁ := constantBytes.take 5) |>.trans <| .cons _ <|
      List.perm_middle (l₁ := constantBytes.take 6) (l₂ := constantBytes.drop 6)

/-- The closed form of the sum, before it is taken modulo 256 (R465). -/
theorem sum_wval8_bytes1to18 (v : Variant) (st : ST) :
    ((bytes1to18 v st).map wval8).sum = wval8 (bin8 (b6 st)) + ((b7 st).toNat + (wval8 (byte9 v st) + 642)) := by
  rw [((bytes1to18_perm v st).map wval8).sum_eq]
  simp only [List.map_cons, List.sum_cons, sum_wval8_constantBytes, wval8_rev8_bin8]

/-- Settles O27: byte 19 is the checksum of bytes 1 to 18, and 642 is 0x82 modulo 256. -/
theorem byte19IsTheChecksum : Obligations.Byte19IsTheChecksum := by
  intro v st
  rw [wval8_checksumByte, map_wval8_frameByte_frame2Of]
  refine ⟨frameByte_checksum v st, ?_⟩
  rw [sum_wval8_bytes1to18, frameByte_b6]
  cases v with
  | A => rw [wval8_byte9_A]; dsimp only; omega
  | B => rw [wval8_byte9_B]; dsimp only; omega

/-- The bytes of one variant are those of the other with bytes 9 and 19 replaced (R459, R464). -/
theorem frameBytes_eq_set (v w : Variant) (st : ST) :
    frameBytes w st = ((frameBytes v st).set 8 (byte9 w st)).set 18
      (rev8 (bin8 (BitVec.ofNat 8 (checksum (bytes1to18 w st))))) := rfl

/-- Settles O28: the two places where variant B's bytes are replaced are the two that are excepted. -/
theorem variantsDifferInByte9AndItsChecksumOnly : Obligations.VariantsDifferInByte9AndItsChecksumOnly := by
  intro st k h9 h19
  have h9' : 8 ≠ k.val := Fin.val_ne_of_ne h9.symm
  have h19' : 18 ≠ k.val := Fin.val_ne_of_ne h19.symm
  simp only [frameByte_frame2Of, frameBytes_eq_set .A .B st]
  rw [List.getElem_set_ne h19', List.getElem_set_ne h9']

/-- The wire values of a whole frame the encoder makes (R206, R452). -/
theorem map_wval8_frameByte (v : Variant) (st : ST) :
    (List.finRange 19).map (fun k => wval8 (frameByte (frame2Of v st) k)) = (frameBytes v st).map wval8 := by
  simp only [frameByte_frame2Of]
  rfl

/-- Settles O29: the encoder's nineteen bytes, evaluated for the three states. -/
theorem workedFramesAreAsGiven : Obligations.WorkedFramesAreAsGiven := by
  refine ⟨?_, ?_, ?_⟩ <;> rw [map_wval8_frameByte] <;> decide

end Sys2Proof.Machine
end

section
/-! What a frame determines: POWER and MODE by byte 6, TEMP by byte 7 (R455, R457), and in variant A FAN and DIR by byte 9
(R462). -/

namespace Sys2Proof.Machine

theorem b6_msb (st : ST) : (b6 st).msb = st.power := by
  unfold b6
  cases st.power <;> cases st.mode <;> rfl

theorem b6_low (st : ST) : b6 st &&& 0b01111111 = modeMask st.mode := by
  unfold b6
  cases st.power <;> cases st.mode <;> rfl

theorem modeMask_injective : Function.Injective modeMask := by
  intro m n h
  cases m <;> cases n <;> revert h <;> decide

theorem fanNibble_injective : Function.Injective fanNibble := by decide

theorem swingNibble_injective : Function.Injective swingNibble := by
  intro d e h
  cases d <;> cases e <;> revert h <;> decide

theorem power_mode_eq_of_b6_eq {x y : ST} (h : b6 x = b6 y) : x.power = y.power ∧ x.mode = y.mode :=
  ⟨by rw [← b6_msb, h, b6_msb], modeMask_injective (by rw [← b6_low, h, b6_low])⟩

theorem temp_eq_of_b7_eq {x y : ST} (h : b7 x = b7 y) : x.temp = y.temp := by
  have hnat := congrArg BitVec.toNat h
  rw [b7_toNat, b7_toNat] at hnat
  exact Temp.deg_injective (BitVec.eq_of_toNat_eq (by omega))

theorem fan_dir_eq_of_b9_eq {x y : ST} (h : b9 x = b9 y) : x.fan = y.fan ∧ x.dir = y.dir := by
  have hnat := congrArg BitVec.toNat h
  rw [b9_toNat, b9_toNat] at hnat
  have hx := swingNibble_lt x.dir
  have hy := swingNibble_lt y.dir
  exact ⟨fanNibble_injective (BitVec.eq_of_toNat_eq (by omega)), swingNibble_injective (BitVec.eq_of_toNat_eq (by omega))⟩

/-- In either variant two states with the same frame agree in POWER, MODE and TEMP. -/
theorem power_mode_temp_eq_of_frame2Of_eq {v : Variant} {x y : ST} (h : frame2Of v x = frame2Of v y) :
    x.power = y.power ∧ x.mode = y.mode ∧ x.temp = y.temp := by
  have h6 : b6 x = b6 y := bin8_injective (by rw [← frameByte_b6 v, h, frameByte_b6])
  have h7 : b7 x = b7 y := bin8_injective (rev8_injective (by rw [← frameByte_b7 v, h, frameByte_b7]))
  obtain ⟨hpower, hmode⟩ := power_mode_eq_of_b6_eq h6
  exact ⟨hpower, hmode, temp_eq_of_b7_eq h7⟩

/-- In variant A they agree in FAN and DIR too. -/
theorem fan_dir_eq_of_frame2Of_A_eq {x y : ST} (h : frame2Of .A x = frame2Of .A y) : x.fan = y.fan ∧ x.dir = y.dir := by
  have h9 : byte9 .A x = byte9 .A y := by rw [← frameByte_byte9, h, frameByte_byte9]
  exact fan_dir_eq_of_b9_eq (bin8_injective (rev8_injective h9))

/-- Settles O30: bytes 6 and 7 determine three fields and variant A's byte 9 the other two, which variant B ignores. -/
theorem frameDeterminesWhatItEncodes : Obligations.FrameDeterminesWhatItEncodes := by
  intro x y
  refine ⟨⟨fun h => ?_, congrArg _⟩, power_mode_temp_eq_of_frame2Of_eq, fun ⟨hpower, hmode, htemp⟩ => ?_⟩
  · obtain ⟨hpower, hmode, htemp⟩ := power_mode_temp_eq_of_frame2Of_eq h
    obtain ⟨hfan, hdir⟩ := fan_dir_eq_of_frame2Of_A_eq h
    cases x
    cases y
    simp_all
  · calc frame2Of .B x = frame2Of .B { x with fan := y.fan } := (frame2Of_B_fan x y.fan).symm
      _ = frame2Of .B { x with fan := y.fan, dir := y.dir } := (frame2Of_B_dir { x with fan := y.fan } y.dir).symm
      _ = frame2Of .B y := by rw [hpower, hmode, htemp]

end Sys2Proof.Machine
end

section
/-! The stages where they have what they need (R451, R501, R557, R601), and the STATUS word they leave (R114). -/

namespace Sys2Proof.Machine

/-- Settles O21: ENCODE needs nothing, and its write is that of R451. -/
theorem encodeWritesTheFrameOfSt : Obligations.EncodeWritesTheFrameOfSt := ⟨decode_encode .encode, fun _ => rfl⟩

theorem exec_convert_of_frame {s : State} {f : Frame2} (hf : s.frame2 = some f) :
    exec .convert s = .next (s.putPt (pulses s.params f)) := by
  change s.convertStep.outcome = _
  simp [State.convertStep, hf]

theorem exec_synth_of_fits {s : State} {p : PulseTrain} (hp : s.pt = some p)
    (hfits : (segments p).length ≤ s.params.segCap) : exec .synth s = .next (s.putSeg (segments p)) := by
  change s.synthStep.outcome = _
  simp [State.synthStep, hp, Nat.not_lt.2 hfits]

theorem exec_transmit_of_accept {s : State} {l : List Segment} (hl : s.seg = some l) (ha : s.engine.answer = .accept) :
    exec .transmit s = .next (s.acceptRequest l) := by
  change s.transmitStep.outcome = _
  simp [State.transmitStep, hl, ha]

theorem exec_transmit_of_refuse {s : State} {l : List Segment} (hl : s.seg = some l) (ha : s.engine.answer = .refuse) :
    exec .transmit s = .next s.refuseRequest := by
  change s.transmitStep.outcome = _
  simp [State.transmitStep, hl, ha]

/-- `eq_replaceField_of_toNat` for a field that is read off the word's value. -/
theorem eq_replaceField_of_mod {w w' : Word} {n pos : Nat} {x : BitVec n} (hpos : pos + n ≤ 16)
    (h : w'.toNat + w.toNat / 2 ^ pos % 2 ^ n * 2 ^ pos = w.toNat + x.toNat * 2 ^ pos) : w' = replaceField w pos x :=
  eq_replaceField_of_toNat hpos rfl (by rwa [BitVec.extractLsb'_toNat, Nat.shiftRight_eq_div_pow])

/-- Setting a field of ones needs no mask. -/
theorem replaceField_allOnes (w : Word) (pos n : Nat) :
    replaceField w pos (BitVec.allOnes n) = w ||| ((BitVec.allOnes n).setWidth 16 <<< pos) := by
  unfold replaceField
  ext i hi
  grind

/-- Where one field is cleared before another is written, the two masks are one. -/
theorem replaceField_replaceField_zero {m n pos pos' : Nat} (w : Word) (x : BitVec m) :
    replaceField (replaceField w pos' 0#n) pos x =
      (w &&& ~~~(((BitVec.allOnes n).setWidth 16 <<< pos') ||| ((BitVec.allOnes m).setWidth 16 <<< pos))) |||
        (x.setWidth 16 <<< pos) := by
  simp [replaceField, BitVec.and_assoc, BitVec.not_or]

/-- `statusWord_toNat` with each valid bit as whether its buffer holds a value (R111 to R114). -/
theorem State.statusWord_toNat_isSome (s : State) :
    s.statusWord.toNat =
      s.status.busy.toNat + 2 * s.frame2.isSome.toNat + 4 * s.pt.isSome.toNat + 8 * s.seg.isSome.toNat +
        16 * s.status.txres.code.toNat + 64 * s.status.fault.toNat + 256 * s.status.err.code.toNat :=
  s.statusWord_toNat

theorem State.putFrame2_statusWord (f : Frame2) (s : State) :
    (s.putFrame2 f).statusWord = replaceField s.statusWord 1 0b001#3 := by
  have hbusy := s.status.busy.toNat_lt
  have hframe2 := s.frame2.isSome.toNat_lt
  have hpt := s.pt.isSome.toNat_lt
  have hseg := s.seg.isSome.toNat_lt
  apply eq_replaceField_of_mod (by decide)
  simp only [State.statusWord_toNat_isSome, State.putFrame2_status, State.putFrame2_frame2, State.putFrame2_pt, State.putFrame2_seg,
    Option.isSome_some, Option.isSome_none, Bool.toNat_true, Bool.toNat_false, BitVec.toNat_ofNat]
  omega

theorem State.putPt_statusWord (p : PulseTrain) (s : State) :
    (s.putPt p).statusWord = replaceField s.statusWord 2 0b01#2 := by
  have hbusy := s.status.busy.toNat_lt
  have hframe2 := s.frame2.isSome.toNat_lt
  have hpt := s.pt.isSome.toNat_lt
  have hseg := s.seg.isSome.toNat_lt
  apply eq_replaceField_of_mod (by decide)
  simp only [State.statusWord_toNat_isSome, State.putPt_status, State.putPt_frame2, State.putPt_pt, State.putPt_seg,
    Option.isSome_some, Option.isSome_none, Bool.toNat_true, Bool.toNat_false, BitVec.toNat_ofNat]
  omega

theorem State.putSeg_statusWord (l : List Segment) (s : State) :
    (s.putSeg l).statusWord = replaceField s.statusWord 3 0b1#1 := by
  obtain ⟨-, -, -, hseg, -⟩ := s.statusWord_fields
  apply eq_replaceField_of_toNat (by decide) hseg
  simp only [State.statusWord_toNat_isSome, State.putSeg_status, State.putSeg_frame2, State.putSeg_pt, State.putSeg_seg,
    Option.isSome_some, Bool.toNat_true, State.segValid, BitVec.toNat_ofBool, BitVec.toNat_ofNat]
  omega

theorem State.statusWord_busy (s : State) (b : Bool) :
    State.statusWord { s with status := { s.status with busy := b } } = replaceField s.statusWord 0 (BitVec.ofBool b) := by
  obtain ⟨hbusy, -⟩ := s.statusWord_fields
  apply eq_replaceField_of_toNat (by decide) hbusy
  simp only [State.statusWord_toNat_isSome, BitVec.toNat_ofBool]
  omega

theorem State.statusWord_txres (s : State) (r : TxRes) :
    State.statusWord { s with status := { s.status with txres := r } } = replaceField s.statusWord 4 r.code := by
  obtain ⟨-, -, -, -, htxres, -⟩ := s.statusWord_fields
  apply eq_replaceField_of_toNat (by decide) htxres
  simp only [State.statusWord_toNat_isSome]
  omega

theorem State.acceptRequest_statusWord (l : List Segment) (s : State) :
    (s.acceptRequest l).statusWord = replaceField (replaceField s.statusWord 4 TxRes.none.code) 0 (BitVec.ofBool true) := by
  rw [← State.statusWord_txres]
  exact State.statusWord_busy { s with status := { s.status with txres := .none } } true

theorem State.refuseRequest_statusWord (s : State) :
    s.refuseRequest.statusWord = replaceField s.statusWord 4 TxRes.fail.code :=
  s.statusWord_txres .fail

/-- Settles O51: each stage replaces a field of the word, an accepted TRANSMIT two. -/
theorem statusWordAfterEachStage : Obligations.StatusWordAfterEachStage := by
  intro s
  refine ⟨⟨_, rfl, s.putFrame2_statusWord s.frameNow⟩, fun f hf => ?_, fun p hp hfits => ?_, fun l hl ha => ?_,
    fun l hl ha => ?_⟩
  · exact ⟨_, exec_convert_of_frame hf, s.putPt_statusWord _⟩
  · exact ⟨_, exec_synth_of_fits hp hfits, (s.putSeg_statusWord _).trans (replaceField_allOnes s.statusWord 3 1)⟩
  · exact ⟨_, exec_transmit_of_accept hl ha, (s.acceptRequest_statusWord l).trans (replaceField_replaceField_zero _ _)⟩
  · exact ⟨_, exec_transmit_of_refuse hl ha, s.refuseRequest_statusWord⟩

end Sys2Proof.Machine
end

section
/-! The elements of the pulse train by index (R502 to R505), the phases of the sequencer form (R509), and the
elements by parity (R508). -/

namespace Sys2Proof.Machine

/-- The mark of bit `i` (R502). -/
theorem bitsPulses_mark (t : Timing) {s : BitStr} {i : Nat} (hi : i < s.length) :
    (bitsPulses t s)[2 * i]? = some t.bitOn := by
  induction s generalizing i with
  | nil => simp at hi
  | cons b s ih =>
    cases i with
    | zero => rfl
    | succ i => exact ih (Nat.lt_of_succ_lt_succ hi)

/-- The space of bit `i` (R502). -/
theorem bitsPulses_space (t : Timing) {s : BitStr} {i : Nat} (hi : i < s.length) :
    (bitsPulses t s)[2 * i + 1]? = some (bitSpace t s[i]) := by
  induction s generalizing i with
  | nil => simp at hi
  | cons b s ih =>
    cases i with
    | zero => rfl
    | succ i => exact ih (Nat.lt_of_succ_lt_succ hi)

section
variable (p : Params) (f : Frame2)

/-- The train is its list form, index by index. -/
theorem pulses_getElem? (k : Nat) : (pulses p f)[k]? = (pulseList p.timing p.frame1.toList f.toList)[k]? := by
  rw [← pulses_toList, Vector.getElem?_toList]

/-- The assembly, cut after FRAME1's pulses (R503). -/
theorem pulseList_cut (t : Timing) (f1 f2 : BitStr) :
    pulseList t f1 f2 = ([t.headerOn, t.headerOff] ++ bitsPulses t f1) ++
      ([t.bitOn, t.separatorOff, t.headerOn, t.headerOff] ++ (bitsPulses t f2 ++ [t.bitOn])) := by
  simp [pulseList]

/-- The pulses of FRAME1 stand after the two of the header (R503, R504). -/
theorem pulses_frame1 {j : Nat} (hj : j < 140) :
    (pulses p f)[2 + j]? = (bitsPulses p.timing p.frame1.toList)[j]? := by
  rw [pulses_getElem?, pulseList_cut, List.getElem?_append_left (by simp [bitsPulses_length]; omega),
    List.getElem?_append_right (by simp)]
  simp

/-- After FRAME1's pulses stand the separator, the second header, frame2's pulses and the trailing mark (R503, R504). -/
theorem pulses_afterFrame1 (j : Nat) :
    (pulses p f)[142 + j]? =
      ([p.timing.bitOn, p.timing.separatorOff, p.timing.headerOn, p.timing.headerOff] ++
        (bitsPulses p.timing f.toList ++ [p.timing.bitOn]))[j]? := by
  have hlen : ([p.timing.headerOn, p.timing.headerOff] ++ bitsPulses p.timing p.frame1.toList).length = 142 := by
    simp [bitsPulses_length]
  rw [pulses_getElem?, pulseList_cut, List.getElem?_append_right (by omega), hlen, Nat.add_sub_cancel_left]

/-- The pulses of frame2 stand after the two of the second header (R503, R504). -/
theorem pulses_frame2 {j : Nat} (hj : j < 304) : (pulses p f)[146 + j]? = (bitsPulses p.timing f.toList)[j]? := by
  have hlen : (bitsPulses p.timing f.toList).length = 304 := by simp [bitsPulses_length]
  rw [show 146 + j = 142 + (4 + j) by omega, pulses_afterFrame1, List.getElem?_append_right (by simp),
    List.getElem?_append_left (by simp [hlen]; omega)]
  simp

theorem pulses_header1On : (pulses p f)[0] = p.timing.headerOn := rfl

theorem pulses_header1Off : (pulses p f)[1] = p.timing.headerOff := rfl

theorem pulses_frame1_mark {i : Nat} (hi : i < 70) : (pulses p f)[2 + 2 * i] = p.timing.bitOn :=
  Vector.getElem_eq_iff.2 ((pulses_frame1 p f (by omega)).trans (bitsPulses_mark _ (by simpa)))

theorem pulses_frame1_space {i : Nat} (hi : i < 70) :
    (pulses p f)[3 + 2 * i] = bitSpace p.timing p.frame1[i] := by
  rw [Vector.getElem_eq_iff, show 3 + 2 * i = 2 + (2 * i + 1) by omega, pulses_frame1 p f (by omega),
    bitsPulses_space _ (by simpa), Vector.getElem_toList]

theorem pulses_separatorOn : (pulses p f)[142] = p.timing.bitOn := Vector.getElem_eq_iff.2 (pulses_afterFrame1 p f 0)

theorem pulses_separatorOff : (pulses p f)[143] = p.timing.separatorOff :=
  Vector.getElem_eq_iff.2 (pulses_afterFrame1 p f 1)

theorem pulses_header2On : (pulses p f)[144] = p.timing.headerOn := Vector.getElem_eq_iff.2 (pulses_afterFrame1 p f 2)

theorem pulses_header2Off : (pulses p f)[145] = p.timing.headerOff := Vector.getElem_eq_iff.2 (pulses_afterFrame1 p f 3)

theorem pulses_frame2_mark {j : Nat} (hj : j < 152) : (pulses p f)[146 + 2 * j] = p.timing.bitOn :=
  Vector.getElem_eq_iff.2 ((pulses_frame2 p f (by omega)).trans (bitsPulses_mark _ (by simpa)))

theorem pulses_frame2_space {j : Nat} (hj : j < 152) : (pulses p f)[147 + 2 * j] = bitSpace p.timing f[j] := by
  rw [Vector.getElem_eq_iff, show 147 + 2 * j = 146 + (2 * j + 1) by omega, pulses_frame2 p f (by omega),
    bitsPulses_space _ (by simpa), Vector.getElem_toList]

theorem pulses_trail : (pulses p f)[450] = p.timing.bitOn := by
  have hlen : (bitsPulses p.timing f.toList).length = 304 := by simp [bitsPulses_length]
  rw [Vector.getElem_eq_iff, show 450 = 142 + 308 from rfl, pulses_afterFrame1, List.getElem?_append_right (by simp),
    List.getElem?_append_right (by simp [hlen])]
  simp [hlen]

/-- The space of bit `i` of byte `k + 1` of frame2 (R205, R504). -/
theorem pulses_frameByte_space (k : Fin 19) (i : Fin 8) :
    (pulses p f)[147 + 16 * k.val + 2 * i.val] = bitSpace p.timing (frameByte f k)[i] := by
  have hspace := pulses_frame2_space p f (j := 8 * k.val + i.val) (by omega)
  have hbit : (frameByte f k)[i] = f[8 * k.val + i.val] := by simp [frameByte]
  rw [hbit, ← hspace]
  congr 1
  omega

end

/-- Settles O33: the parts of the assembly, one after the other, and byte `k + 1` as bits `8k` to `8k + 7`. -/
theorem pulseTrainIndexMap : Obligations.PulseTrainIndexMap := fun p f =>
  ⟨pulses_header1On p f, pulses_header1Off p f, fun i => ⟨pulses_frame1_mark p f i.isLt, pulses_frame1_space p f i.isLt⟩,
    pulses_separatorOn p f, pulses_separatorOff p f, pulses_header2On p f, pulses_header2Off p f,
    fun j => ⟨pulses_frame2_mark p f j.isLt, pulses_frame2_space p f j.isLt⟩, pulses_trail p f,
    pulses_frameByte_space p f⟩

/-- The indices of a train, by the rows of the index map (R504). -/
theorem trainIndex_cases {motive : (k : Nat) → k < 451 → Prop}
    (header1On : motive 0 (by omega)) (header1Off : motive 1 (by omega))
    (frame1Mark : ∀ (i : Nat) (hi : i < 70), motive (2 + 2 * i) (by omega))
    (frame1Space : ∀ (i : Nat) (hi : i < 70), motive (3 + 2 * i) (by omega))
    (separatorOn : motive 142 (by omega)) (separatorOff : motive 143 (by omega))
    (header2On : motive 144 (by omega)) (header2Off : motive 145 (by omega))
    (frame2Mark : ∀ (j : Nat) (hj : j < 152), motive (146 + 2 * j) (by omega))
    (frame2Space : ∀ (j : Nat) (hj : j < 152), motive (147 + 2 * j) (by omega))
    (trail : motive 450 (by omega)) (k : Nat) (hk : k < 451) : motive k hk := by
  obtain rfl | rfl | hframe1 | rfl | rfl | rfl | rfl | hframe2 | rfl :
      k = 0 ∨ k = 1 ∨ (2 ≤ k ∧ k ≤ 141) ∨ k = 142 ∨ k = 143 ∨ k = 144 ∨ k = 145 ∨ (146 ≤ k ∧ k ≤ 449) ∨ k = 450 := by
    omega
  · exact header1On
  · exact header1Off
  · obtain ⟨i, rfl | rfl⟩ : ∃ i, k = 2 + 2 * i ∨ k = 3 + 2 * i := ⟨(k - 2) / 2, by omega⟩
    · exact frame1Mark i (by omega)
    · exact frame1Space i (by omega)
  · exact separatorOn
  · exact separatorOff
  · exact header2On
  · exact header2Off
  · obtain ⟨j, rfl | rfl⟩ : ∃ j, k = 146 + 2 * j ∨ k = 147 + 2 * j := ⟨(k - 146) / 2, by omega⟩
    · exact frame2Mark j (by omega)
    · exact frame2Space j (by omega)
  · exact trail

/-- From 2 to 141 the counter is in FRAME1's bits (R509). -/
theorem phase_frame1 {k : Nat} (hlo : 2 ≤ k) (hhi : k ≤ 141) : phase k = .f1Bit ((k - 2) / 2) (k % 2 = 0) := by
  rw [phase, if_neg (by omega), if_neg (by omega), if_pos hhi]

theorem phase_frame1_mark {i : Nat} (hi : i < 70) : phase (2 + 2 * i) = .f1Bit i true := by
  rw [phase_frame1 (by omega) (by omega), decide_eq_true (by omega)]
  congr 1
  omega

theorem phase_frame1_space {i : Nat} (hi : i < 70) : phase (3 + 2 * i) = .f1Bit i false := by
  rw [phase_frame1 (by omega) (by omega), decide_eq_false (by omega)]
  congr 1
  omega

/-- From 146 to 449 the counter is in frame2's bits (R509). -/
theorem phase_frame2 {k : Nat} (hlo : 146 ≤ k) (hhi : k ≤ 449) : phase k = .f2Bit ((k - 146) / 2) (k % 2 = 0) := by
  rw [phase, if_neg (by omega), if_neg (by omega), if_neg (by omega), if_neg (by omega), if_neg (by omega),
    if_neg (by omega), if_neg (by omega), if_pos hhi]

theorem phase_frame2_mark {j : Nat} (hj : j < 152) : phase (146 + 2 * j) = .f2Bit j true := by
  rw [phase_frame2 (by omega) (by omega), decide_eq_true (by omega)]
  congr 1
  omega

theorem phase_frame2_space {j : Nat} (hj : j < 152) : phase (147 + 2 * j) = .f2Bit j false := by
  rw [phase_frame2 (by omega) (by omega), decide_eq_false (by omega)]
  congr 1
  omega

/-- At step `k` the sequencer puts out element `k` of the train (R504, R509). -/
theorem output_phase (p : Params) (f : Frame2) (k : Nat) (hk : k < 451) :
    (phase k).output p f = some (pulses p f)[k] := by
  induction k, hk using trainIndex_cases with
  | header1On => rfl
  | header1Off => rfl
  | frame1Mark i hi => rw [phase_frame1_mark hi, pulses_frame1_mark p f hi]; rfl
  | frame1Space i hi => simp [phase_frame1_space hi, pulses_frame1_space p f hi, Phase.output, hi]
  | separatorOn => rw [pulses_separatorOn]; rfl
  | separatorOff => rw [pulses_separatorOff]; rfl
  | header2On => rw [pulses_header2On]; rfl
  | header2Off => rw [pulses_header2Off]; rfl
  | frame2Mark j hj => rw [phase_frame2_mark hj, pulses_frame2_mark p f hj]; rfl
  | frame2Space j hj => simp [phase_frame2_space hj, pulses_frame2_space p f hj, Phase.output, hj]
  | trail => rw [pulses_trail]; rfl

theorem sequencerOutputs_eq_pulses (p : Params) (f : Frame2) : sequencerOutputs p f = (pulses p f).toList := by
  have hmap : (List.range 451).map (fun k => (phase k).output p f) = (pulses p f).toList.map some := by
    apply List.ext_getElem
    · simp only [List.length_map, List.length_range, Vector.length_toList]
    · intro k hk _
      rw [List.length_map, List.length_range] at hk
      rw [List.getElem_map, List.getElem_map, List.getElem_range, Vector.getElem_toList, output_phase p f k hk]
  have hsome := congrArg (List.filterMap id) hmap
  rwa [List.filterMap_map, List.filterMap_map, Function.id_comp, Function.id_comp, List.filterMap_some] at hsome

/-- Settles O34: each phase puts out its element, and the list of outputs is that of the elements. -/
theorem sequencerPutsOutThePulseTrain : Obligations.SequencerPutsOutThePulseTrain := fun p f =>
  ⟨sequencerOutputs_eq_pulses p f, fun k => output_phase p f k.val k.isLt, rfl⟩

/-- A bit's space is one of the two constants (R502). -/
theorem bitSpace_eq_or (t : Timing) (b : Bool) : bitSpace t b = t.bit0Off ∨ bitSpace t b = t.bit1Off := by
  cases b
  · exact .inl rfl
  · exact .inr rfl

/-- Even elements are marks: a header's at 0 and 144, a bit's elsewhere (R508). -/
theorem pulses_of_even (p : Params) (f : Frame2) (k : Nat) (hk : k < 451) (heven : k % 2 = 0) :
    (pulses p f)[k] = if k = 0 ∨ k = 144 then p.timing.headerOn else p.timing.bitOn := by
  induction k, hk using trainIndex_cases with
  | header1On => rfl
  | frame1Mark i hi => rw [pulses_frame1_mark p f hi, if_neg (by omega)]
  | separatorOn => exact pulses_separatorOn p f
  | header2On => exact pulses_header2On p f
  | frame2Mark j hj => rw [pulses_frame2_mark p f hj, if_neg (by omega)]
  | trail => exact pulses_trail p f
  | header1Off | separatorOff | header2Off => contradiction
  | frame1Space i hi | frame2Space i hi => omega

/-- Odd elements are spaces: a header's at 1 and 145, the separator's at 143, a bit's elsewhere (R508). -/
theorem pulses_of_odd (p : Params) (f : Frame2) (k : Nat) (hk : k < 451) (hodd : k % 2 = 1) :
    if k = 1 ∨ k = 145 then (pulses p f)[k] = p.timing.headerOff
    else if k = 143 then (pulses p f)[k] = p.timing.separatorOff
    else (pulses p f)[k] = p.timing.bit0Off ∨ (pulses p f)[k] = p.timing.bit1Off := by
  induction k, hk using trainIndex_cases with
  | header1Off => rfl
  | frame1Space i hi =>
    rw [pulses_frame1_space p f hi, if_neg (by omega), if_neg (by omega)]
    exact bitSpace_eq_or _ _
  | separatorOff => exact pulses_separatorOff p f
  | header2Off => exact pulses_header2Off p f
  | frame2Space j hj =>
    rw [pulses_frame2_space p f hj, if_neg (by omega), if_neg (by omega)]
    exact bitSpace_eq_or _ _
  | header1On | separatorOn | header2On | trail => contradiction
  | frame1Mark i hi | frame2Mark i hi => omega

/-- Settles O35, by the rows of the index map. -/
theorem pulseTrainElementsByParity : Obligations.PulseTrainElementsByParity := fun p f k =>
  ⟨pulses_of_even p f k.val k.isLt, pulses_of_odd p f k.val k.isLt⟩

end Sys2Proof.Machine
end

section
/-! CONVERT with a frame and without one (R501, R511, R706). -/

namespace Sys2Proof.Machine

theorem exec_convert_of_no_frame {s : State} (hf : s.frame2 = none) :
    exec .convert s = .next (s.raise .notReady) := by
  change s.convertStep.outcome = _
  rw [State.convertStep, hf]
  rfl

/-- Settles O31: with a frame PT is written, without one the fault is taken. -/
theorem convertWritesThePulseTrain : Obligations.ConvertWritesThePulseTrain :=
  ⟨decode_encode .convert, fun _ => ⟨fun _ hf => exec_convert_of_frame hf, fun hf hsafe =>
    (exec_convert_of_no_frame hf).trans (congrArg _ (State.raise_of_safe .notReady hsafe))⟩⟩

end Sys2Proof.Machine
end

section
/-! What the carrier makes of a mark, of an element and of a whole train (R554 to R557): the segments, their number and the
time they take. -/

namespace Sys2Proof.Machine

/-- A mark as its whole cycles, with the carrier's numbers (R551 to R554). -/
theorem synthMark_eq (d : Dur) :
    synthMark d = (List.replicate (d.toNat / 26) [⟨true, 8⟩, ⟨false, 18⟩]).flatten := rfl

theorem totalTime_flatten (ls : List (List Segment)) : totalTime ls.flatten = (ls.map totalTime).sum := by
  induction ls with
  | nil => rfl
  | cons l ls ih => simp [ih]

theorem length_synthMark (d : Dur) : (synthMark d).length = 2 * (d.toNat / 26) := by
  simp [synthMark_eq, Nat.mul_comm]

theorem totalTime_synthMark (d : Dur) : totalTime (synthMark d) = 26 * (d.toNat / 26) := by
  simp [synthMark_eq, totalTime_flatten, Nat.mul_comm]

@[simp] theorem totalTime_synthSpace (d : Dur) : totalTime (synthSpace d) = d.toNat := rfl

/-- Settles O38, by the number and the time of a mark's cycles. -/
theorem markDropsItsRemainder : Obligations.MarkDropsItsRemainder := by
  intro d
  refine ⟨length_synthMark d, totalTime_synthMark d, ?_, fun hlt => ?_⟩
  · rw [totalTime_synthMark, Nat.div_add_mod]
  · rw [synthMark_eq, Nat.div_eq_of_lt hlt]
    rfl

/-- A mark loses its remainder below one cycle, a space nothing (R555, R556). -/
theorem totalTime_synthElement_add_mod (k : Nat) (d : Dur) :
    totalTime (synthElement k d) + (if k % 2 = 0 then d.toNat % 26 else 0) = d.toNat := by
  unfold synthElement
  split
  · rw [totalTime_synthMark, Nat.div_add_mod]
  · rfl

/-- The segments of a train, element by element (R557). -/
theorem segments_eq_flatMap (p : PulseTrain) :
    segments p = (List.finRange 451).flatMap fun k => synthElement k.val p[k] := by
  have hidx : p.toList.mapIdx synthElement = (List.finRange 451).map fun k => synthElement k.val p[k] := by
    apply List.ext_getElem <;> simp
  rw [segments, segmentsFrom_eq_mapIdx, List.flatMap_def, ← hidx]
  simp

/-- Settles O37, element by element. -/
theorem segmentsExpandMarksAndSpaces : Obligations.SegmentsExpandMarksAndSpaces := segments_eq_flatMap

/-- Settles O39: the loss of each element, summed over the train. -/
theorem trainLosesTheMarksRemainders : Obligations.TrainLosesTheMarksRemainders := by
  intro p
  rw [segments_eq_flatMap, List.flatMap_def, totalTime_flatten, List.map_map, ← List.sum_map_add]
  congr 2
  funext k
  exact totalTime_synthElement_add_mod k.val p[k]

end Sys2Proof.Machine
end

section
/-! The segments of the train of FRAME1 and frame2, part by part, and their figures at the default timing constants (R564). -/

namespace Sys2Proof.Machine

@[simp] theorem highTime_append (l m : List Segment) : highTime (l ++ m) = highTime l + highTime m := by
  simp [highTime]

theorem highTime_flatten (ls : List (List Segment)) : highTime ls.flatten = (ls.map highTime).sum := by
  induction ls with
  | nil => rfl
  | cons l ls ih => simp [ih]

theorem highTime_synthMark (d : Dur) : highTime (synthMark d) = 8 * (d.toNat / 26) := by
  rw [synthMark_eq, highTime_flatten, List.map_replicate, List.sum_replicate, smul_eq_mul, Nat.mul_comm]
  rfl

@[simp] theorem highTime_synthSpace (d : Dur) : highTime (synthSpace d) = 0 := rfl

@[simp] theorem length_synthSpace (d : Dur) : (synthSpace d).length = 1 := rfl

/-- A mark and the space after it: a header, the separator, or a bit. -/
def markSpace (on off : Dur) : List Segment := synthMark on ++ synthSpace off

/-- The segments of a string's pulses (R502, R557). -/
def bitsSegments (t : Timing) (s : BitStr) : List Segment := s.flatMap fun b => markSpace t.bitOn (bitSpace t b)

theorem bitsSegments_cons (t : Timing) (b : Bool) (s : BitStr) :
    bitsSegments t (b :: s) = markSpace t.bitOn (bitSpace t b) ++ bitsSegments t s := rfl

/-- The trailing mark. -/
theorem segmentsFrom_mark {k : Nat} (hk : k % 2 = 0) (d : Dur) : segmentsFrom k [d] = synthMark d := by
  simp [segmentsFrom, synthElement, hk]

theorem segmentsFrom_markSpace {k : Nat} (hk : k % 2 = 0) (on off : Dur) (l : List Dur) :
    segmentsFrom k (on :: off :: l) = markSpace on off ++ segmentsFrom (k + 2) l := by
  have hodd : (k + 1) % 2 ≠ 0 := by omega
  simp [segmentsFrom, synthElement, hk, hodd, markSpace]

/-- At an even index a string's pulses alternate from a mark on, so they are its bits. -/
theorem segmentsFrom_bitsPulses {k : Nat} (hk : k % 2 = 0) (t : Timing) (s : BitStr) (l : List Dur) :
    segmentsFrom k (bitsPulses t s ++ l) = bitsSegments t s ++ segmentsFrom (k + 2 * s.length) l := by
  induction s generalizing k with
  | nil => rfl
  | cons b s ih =>
    rw [bitsPulses_cons, List.cons_append, List.cons_append, segmentsFrom_markSpace hk, ih (by omega), bitsSegments_cons,
      List.append_assoc, List.length_cons, show k + 2 + 2 * s.length = k + 2 * (s.length + 1) by omega]

/-- The segments of the assembly of R503. -/
theorem segments_pulses (p : Params) (f : Frame2) :
    segments (pulses p f) =
      markSpace p.timing.headerOn p.timing.headerOff ++ (bitsSegments p.timing p.frame1.toList ++
        (markSpace p.timing.bitOn p.timing.separatorOff ++ (markSpace p.timing.headerOn p.timing.headerOff ++
          (bitsSegments p.timing f.toList ++ synthMark p.timing.bitOn)))) := by
  simp [segments, pulseList, segmentsFrom_markSpace, segmentsFrom_bitsPulses, segmentsFrom_mark]

@[simp] theorem length_markSpace (on off : Dur) : (markSpace on off).length = 2 * (on.toNat / 26) + 1 := by
  simp [markSpace, length_synthMark]

@[simp] theorem totalTime_markSpace (on off : Dur) :
    totalTime (markSpace on off) = 26 * (on.toNat / 26) + off.toNat := by
  simp [markSpace, totalTime_synthMark]

@[simp] theorem highTime_markSpace (on off : Dur) : highTime (markSpace on off) = 8 * (on.toNat / 26) := by
  simp [markSpace, highTime_synthMark]

theorem length_bitsSegments (t : Timing) (s : BitStr) :
    (bitsSegments t s).length = (2 * (t.bitOn.toNat / 26) + 1) * s.length := by
  simp [bitsSegments, List.length_flatMap, Nat.mul_comm]

theorem highTime_bitsSegments (t : Timing) (s : BitStr) :
    highTime (bitsSegments t s) = 8 * (t.bitOn.toNat / 26) * s.length := by
  simp [bitsSegments, List.flatMap_def, highTime_flatten, Function.comp_def, Nat.mul_comm]

/-- By default a bit takes 442 + 430 µs, and 870 µs more for a `1`. -/
theorem totalTime_bitsSegments_default (s : BitStr) :
    totalTime (bitsSegments Timing.default s) = 872 * s.length + 870 * s.count true := by
  have hbit (b : Bool) :
      totalTime (markSpace Timing.default.bitOn (bitSpace Timing.default b)) = 872 + 870 * b.toNat := by
    rw [totalTime_markSpace]
    cases b <;> rfl
  induction s with
  | nil => rfl
  | cons b s ih =>
    rw [bitsSegments_cons, totalTime_append, hbit, ih]
    cases b <;> simp <;> omega

/-- Settles O40, part by part. -/
theorem segmentFiguresAtTheDefaults : Obligations.SegmentFiguresAtTheDefaults := by
  intro p f htiming
  have hheader : Timing.default.headerOn.toNat / 26 = 134 := rfl
  have hbit : Timing.default.bitOn.toNat / 26 = 17 := rfl
  have hheaderOff : Timing.default.headerOff.toNat = 1730 := rfl
  have hseparatorOff : Timing.default.separatorOff.toNat = 9990 := rfl
  rw [segments_pulses, htiming]
  refine ⟨?_, ?_, ?_⟩
  · simp [length_bitsSegments, length_synthMark, hheader, hbit]
  · simp only [totalTime_append, totalTime_markSpace, totalTime_bitsSegments_default, totalTime_synthMark, hheader, hbit,
      hheaderOff, hseparatorOff, Vector.length_toList]
    omega
  · simp [highTime_bitsSegments, highTime_synthMark, hheader, hbit]

end Sys2Proof.Machine
end

section
/-! The line level inside one segment and inside the burst of a mark (R558 to R560). -/

namespace Sys2Proof.Machine

/-- While segment `i` lasts the line has its level: what stands before it ends at `T(i)` (R558, R560). -/
theorem lineLevel_of_segment {l : List Segment} {i t : Nat} (hi : i < l.length) (hstart : segStart l i ≤ t)
    (hend : t < segStart l i + l[i].dur.toNat) : lineLevel l t = l[i].level := by
  obtain ⟨u, rfl⟩ := Nat.exists_eq_add_of_le hstart
  have hcut : l.take i ++ l[i] :: l.drop (i + 1) = l := by rw [← List.drop_eq_getElem_cons, List.take_append_drop]
  calc lineLevel l (segStart l i + u)
      = lineLevel (l.take i ++ l[i] :: l.drop (i + 1)) (totalTime (l.take i) + u) := by rw [hcut, segStart]
    _ = lineLevel (l[i] :: l.drop (i + 1)) u := lineLevel_append_right _ _ _
    _ = l[i].level := if_pos (Nat.lt_of_add_lt_add_left hend)

/-- In one carrier cycle the line is high while the cycle is active (R552 to R554). -/
theorem lineLevel_cycle (u : Nat) : lineLevel [⟨true, 8⟩, ⟨false, 18⟩] u = true ↔ u < 8 := by
  simp [lineLevel]

/-- Inside `n` carrier cycles the line is the carrier, cycle by cycle (R554, R560). -/
theorem lineLevel_cycles (n : Nat) {u : Nat} (hu : u < 26 * n) :
    lineLevel (List.replicate n [⟨true, 8⟩, ⟨false, 18⟩]).flatten u = true ↔ u % 26 < 8 := by
  have hcycle : totalTime [⟨true, 8⟩, ⟨false, 18⟩] = 26 := rfl
  induction n generalizing u with
  | zero => omega
  | succ n ih =>
    rw [List.replicate_succ, List.flatten_cons]
    obtain hfirst | hlater := Nat.lt_or_ge u 26
    · rw [lineLevel_append_left _ _ _ (by rwa [hcycle]), lineLevel_cycle, Nat.mod_eq_of_lt hfirst]
    · obtain ⟨v, rfl⟩ := Nat.exists_eq_add_of_le hlater
      rw [← hcycle, lineLevel_append_right, hcycle, Nat.add_mod_left]
      exact ih (by omega)

/-- Settles O41: by the segment the time falls in, and by the cycle of the burst it falls in. -/
theorem lineLevelOfAnEmission : Obligations.LineLevelOfAnEmission := by
  refine ⟨fun l t => ⟨fun i => lineLevel_of_segment i.isLt, lineLevel_after l t⟩, fun before after d u hu => ?_⟩
  rw [List.append_assoc, lineLevel_append_right, lineLevel_append_left _ _ _ (by rwa [totalTime_synthMark])]
  exact lineLevel_cycles _ hu

end Sys2Proof.Machine
end

section
/-! SYNTH with a train that is over SEG_CAP and without a train (R557, R706, R708). -/

namespace Sys2Proof.Machine

theorem exec_synth_of_over {s : State} {p : PulseTrain} (hp : s.pt = some p)
    (hover : s.params.segCap < (segments p).length) : exec .synth s = .next (s.raise .capacity) := by
  change s.synthStep.outcome = _
  simp only [State.synthStep, hp, if_pos hover]
  rfl

theorem exec_synth_of_no_train {s : State} (hp : s.pt = none) : exec .synth s = .next (s.raise .notReady) := by
  change s.synthStep.outcome = _
  rw [State.synthStep, hp]
  rfl

/-- Settles O36: with a train that fits SEG is written, else the fault is taken. -/
theorem synthWritesTheSegments : Obligations.SynthWritesTheSegments := by
  refine ⟨decode_encode .synth, fun s => ⟨fun p => exec_synth_of_fits, fun p hp hover hsafe => ?_, fun hp hsafe => ?_⟩⟩
  · rw [exec_synth_of_over hp hover, State.raise_of_safe _ hsafe]
  · rw [exec_synth_of_no_train hp, State.raise_of_safe _ hsafe]

end Sys2Proof.Machine
end

section
/-! A step while BUSY = 1 (R604, R605, R726): it is the engine's move, of which the block sees BUSY, TXRES and the handles. -/

namespace Sys2Proof.Machine

/-- While BUSY = 1 the engine moves, whatever the host has (R214, R807). -/
theorem step_of_busy {s : State} (hbusy : s.status.busy = true) : step s = .next s.engineMove := by
  simp only [step, State.nextMove, hbusy]

theorem engineMove_of_emit {s : State} {us : Nat} (hm : s.engine.move = .emit us) : s.engineMove = s.emit us := by
  simp only [State.engineMove, hm]

theorem engineMove_of_report {s : State} {c : Completion} (hm : s.engine.move = .report c) :
    s.engineMove = s.complete c := by
  simp only [State.engineMove, hm]

@[simp] theorem engineMove_frame2 (s : State) : s.engineMove.frame2 = s.frame2 := by
  rcases engineMove_cases s with ⟨us, -, h⟩ | ⟨c, -, h⟩ <;> simp [h]

@[simp] theorem engineMove_pt (s : State) : s.engineMove.pt = s.pt := by
  rcases engineMove_cases s with ⟨us, -, h⟩ | ⟨c, -, h⟩ <;> simp [h]

@[simp] theorem engineMove_seg (s : State) : s.engineMove.seg = s.seg := by
  rcases engineMove_cases s with ⟨us, -, h⟩ | ⟨c, -, h⟩ <;> simp [h]

@[simp] theorem engineMove_host (s : State) : s.engineMove.host = s.host := by
  rcases engineMove_cases s with ⟨us, -, h⟩ | ⟨c, -, h⟩ <;> simp [h]

/-- Settles O8: the step is the engine's move, which leaves all these fields. -/
theorem busyStepAcceptsNothing : Obligations.BusyStepAcceptsNothing := fun s hbusy =>
  ⟨_, step_of_busy hbusy, engineMove_host s, engineMove_params s, engineMove_st s, engineMove_frame2 s, engineMove_pt s,
    engineMove_seg s, engineMove_fault s, engineMove_err s⟩

/-- Settles O44, by the engine's move: it goes on, or it reports one of the two results. -/
theorem completionEndsTheTransmission : Obligations.CompletionEndsTheTransmission := by
  intro s hbusy
  refine ⟨_, step_of_busy hbusy, engineMove_params s, engineMove_st s, engineMove_frame2 s, engineMove_pt s,
    engineMove_seg s, engineMove_host s, ?_⟩
  cases hm : s.engine.move with
  | emit us =>
    rw [engineMove_of_emit hm]
    exact ⟨rfl, rfl⟩
  | report c =>
    rw [engineMove_of_report hm]
    cases c <;> exact ⟨rfl, rfl⟩

end Sys2Proof.Machine
end

section
/-! TRANSMIT up to the engine's answer (R601 to R604): accepted, refused, and what it leaves in either case (R611). -/

namespace Sys2Proof.Machine

/-- Where nothing was emitted the line showed nothing (R559, R603). -/
theorem State.shownLevel_of_no_emission {s : State} (h : s.engine.emission = none) (τ : Nat) : s.shownLevel τ = false := by
  rw [State.shownLevel, h]

/-- Settles O42: the request is for the list held, on the output line. -/
theorem transmitAcceptedIsInFlight : Obligations.TransmitAcceptedIsInFlight := fun _ _ hl ha =>
  ⟨_, exec_transmit_of_accept hl ha, rfl, rfl, rfl, rfl, rfl, rfl, rfl, rfl, rfl⟩

/-- Settles O43: a refusal writes TXRES and leaves no emission. -/
theorem transmitRefusedFails : Obligations.TransmitRefusedFails := fun _ _ hl ha =>
  ⟨_, exec_transmit_of_refuse hl ha, rfl, State.shownLevel_of_no_emission rfl, rfl, rfl, rfl, rfl, rfl, rfl, rfl, rfl⟩

@[simp] theorem transmitStep_frame2 (s : State) : s.transmitStep.state.frame2 = s.frame2 := by
  rcases transmitStep_state s with ⟨-, h⟩ | ⟨l, -, -, h⟩ | ⟨l, -, -, h⟩ <;> simp [h]

@[simp] theorem transmitStep_pt (s : State) : s.transmitStep.state.pt = s.pt := by
  rcases transmitStep_state s with ⟨-, h⟩ | ⟨l, -, -, h⟩ | ⟨l, -, -, h⟩ <;> simp [h]

@[simp] theorem transmitStep_seg (s : State) : s.transmitStep.state.seg = s.seg := by
  rcases transmitStep_state s with ⟨-, h⟩ | ⟨l, -, -, h⟩ | ⟨l, -, -, h⟩ <;> simp [h]

/-- Settles O49: each outcome of TRANSMIT's step leaves ST and the buffers, and each of SEND's leaves ST. -/
theorem transmitAndSendNeverChangeSt : Obligations.TransmitAndSendNeverChangeSt := fun s =>
  ⟨⟨_, rfl, execSend_st rfl⟩, _, rfl, transmitStep_st s, transmitStep_frame2 s, transmitStep_pt s, transmitStep_seg s⟩

/-- With segments to send TRANSMIT raises no fault, whatever the engine answers (R603, R709). -/
theorem transmitStep_fault_of_segments {s : State} {l : List Segment} (hl : s.seg = some l) :
    s.transmitStep.state.status.fault = s.status.fault := by
  rcases transmitStep_state s with ⟨hnone, -⟩ | ⟨m, -, -, h⟩ | ⟨m, -, -, h⟩
  · simp [hl] at hnone
  · simp [h]
  · simp [h]

end Sys2Proof.Machine
end

section
/-! What the line has shown when a transmission has ended (R608), by how far into the waveform the emission went. -/

namespace Sys2Proof.Machine

theorem State.shownLevel_of_emission {s : State} {e : Emission} (h : s.engine.emission = some e) (τ : Nat) :
    s.shownLevel τ = e.level τ := by
  rw [State.shownLevel, h]

/-- An emission that showed everything showed the waveform, as the line is low after it anyway (R559, R608). -/
theorem Emission.level_whole (line : OutputLine) (l : List Segment) (τ : Nat) :
    (Emission.mk line l (totalTime l)).level τ = lineLevel l τ :=
  ite_eq_left_iff.2 fun hafter => (lineLevel_after l τ (Nat.le_of_not_lt hafter)).symm

/-- An emission cut at `n` µs or at its end, whichever is first, showed the waveform up to `n` µs: past its end the waveform is
low too (R559, R608). -/
theorem Emission.level_cutShort (line : OutputLine) (l : List Segment) (n τ : Nat) :
    (Emission.mk line l (min n (totalTime l))).level τ = if τ < n then lineLevel l τ else false := by
  obtain hin | hafter := Nat.lt_or_ge τ (totalTime l)
  · simp [Emission.level, hin]
  · simp [Emission.level, lineLevel_after l τ hafter]

/-- Settles O45: the report's move shows the handed list on the handed line, to its end or cut short; a refusal leaves no
emission. -/
theorem lineShowsTheWaveformOrAPrefix : Obligations.LineShowsTheWaveformOrAPrefix := by
  refine ⟨fun s r c hbusy hhandles hmove => ?_, fun s l hl ha =>
    ⟨_, exec_transmit_of_refuse hl ha, rfl, State.shownLevel_of_no_emission rfl⟩⟩
  have hemission : s.engineMove.engine.emission =
      some ⟨r.line, r.segs, moveReach (.report c) s.engine.shown r.segs⟩ := by
    rw [engineMove_emission, hhandles, hmove, Option.map_some]
  refine ⟨_, _, step_of_busy hbusy, hemission, rfl, rfl, fun hcoherent => ?_, fun τ => ?_⟩
  · obtain ⟨-, -, l, hseg, hrequest, -⟩ := hcoherent.inFlight hbusy
    obtain rfl : r = ⟨s.params.outputLine, l⟩ := Option.some.inj (hhandles.symm.trans hrequest)
    exact ⟨rfl, hseg⟩
  · rw [State.shownLevel_of_emission hemission]
    cases c with
    | ok => exact Emission.level_whole r.line r.segs τ
    | fail us => exact Emission.level_cutShort r.line r.segs (s.engine.shown + us) τ

end Sys2Proof.Machine
end

section
/-! SEND (R609, R610): the frame and the train of ST, then a fault where the segments are over SEG_CAP, else TRANSMIT. -/

namespace Sys2Proof.Machine

/-- The state after SEND's first two steps, ENCODE and CONVERT (R609). -/
abbrev State.withTrain (s : State) : State := (s.putFrame2 s.frameNow).putPt s.trainNow

/-- The state after SEND's first three steps, where the segments fit (R609). -/
abbrev State.withSegments (s : State) : State := s.withTrain.putSeg (segments s.trainNow)

theorem exec_send_of_over {s : State} (hover : s.params.segCap < (segments s.trainNow).length) :
    exec .send s = .next (s.withTrain.raise .capacity) := by
  rcases execSend_cases s with ⟨-, h⟩ | ⟨hfits, -⟩
  · exact h
  · exact absurd hover (Nat.not_lt.2 hfits)

theorem exec_send_of_fits {s : State} (hfits : (segments s.trainNow).length ≤ s.params.segCap) :
    exec .send s = exec .transmit s.withSegments := by
  rcases execSend_cases s with ⟨hover, -⟩ | ⟨-, h⟩
  · exact absurd hover (Nat.not_lt.2 hfits)
  · exact h

/-- Settles O46: with the three buffers written, the accepted TRANSMIT puts their segments in flight. -/
theorem sendPutsTheStateInFlight : Obligations.SendPutsTheStateInFlight := by
  intro s hfits haccept
  have hsend : exec .send s = .next (s.withSegments.acceptRequest (segments s.trainNow)) :=
    (exec_send_of_fits hfits).trans (exec_transmit_of_accept rfl haccept)
  exact ⟨_, hsend, rfl, rfl, rfl, rfl, rfl, rfl, rfl, rfl, rfl⟩

/-- Settles O48: the fault is taken on the state with the frame and the train. -/
theorem sendOverCapacityKeepsFrameAndTrain : Obligations.SendOverCapacityKeepsFrameAndTrain := by
  intro s hsafe hover
  have hsafe' : s.withTrain.status.fault = false := hsafe
  rw [exec_send_of_over hover, State.raise_of_safe .capacity hsafe']
  rfl

/-- Settles O47, by whether SYNTH's list fits: it faults and SEND stops with it, or TRANSMIT follows and raises no fault. -/
theorem sendIsItsFourCommands : Obligations.SendIsItsFourCommands := by
  refine ⟨decode_encode .send, fun s hsafe => ?_⟩
  have hconvert : exec .convert (s.putFrame2 s.frameNow) = .next s.withTrain := exec_convert_of_frame rfl
  obtain hover | hfits := Nat.lt_or_ge s.params.segCap (segments s.trainNow).length
  · have hsynth : exec .synth s.withTrain = .next (s.withTrain.raise .capacity) := exec_synth_of_over rfl hover
    have hsend := exec_send_of_over hover
    refine ⟨_, _, _, _, rfl, hconvert, hsynth, hsend, ?_, fun _ => ?_⟩
    · rw [hsend, State.raise_fault, if_pos rfl]
    · rw [State.raise_status_of_safe .capacity s.withTrain hsafe]
  · have hsynth : exec .synth s.withTrain = .next s.withSegments := exec_synth_of_fits rfl hfits
    have hsafe' : s.withSegments.status.fault = false := hsafe
    have htransmit : s.withSegments.transmitStep.state.status.fault = false :=
      (transmitStep_fault_of_segments rfl).trans hsafe'
    refine ⟨_, _, _, _, rfl, hconvert, hsynth, exec_send_of_fits hfits, ?_, fun hfault => ?_⟩
    · rw [exec_send_of_fits hfits, hsafe', if_neg Bool.false_ne_true]
    · simp [htransmit] at hfault

end Sys2Proof.Machine
end

section
/-! Which codes a command can leave in ERR (R702 to R708): DOMAIN_VIOLATION outside the operand's domain, and within it only those
of the stages. -/

namespace Sys2Proof.Machine

/-- The first fault is the one ERR names (R705). -/
theorem State.raise_err_of_safe (e : ErrCode) {s : State} (hsafe : s.status.fault = false) : (s.raise e).status.err = e := by
  rw [State.raise_status_of_safe e s hsafe]

/-- A setter whose operand stands for no value takes the fault (R403 to R406, R703). -/
theorem setField_outcome_of_isSome_eq_false {α : Type} {value? : Option α} (h : value?.isSome = false) (upd : α → ST)
    (s : State) : (setField value? upd s).outcome = .next (s.raise .domainViolation) := by
  obtain rfl : value? = none := by simpa using h
  rfl

/-- A setter whose operand stands for a value leaves ERR (R402 to R406). -/
theorem setField_err_of_isSome {α : Type} {value? : Option α} (h : value?.isSome = true) (upd : α → ST) (s : State) :
    (setField value? upd s).state.status.err = s.status.err := by
  rcases setField_state value? upd s with ⟨x, -, hx⟩ | ⟨hnone, -⟩
  · rw [hx, State.setSt_status]
  · simp [hnone] at h

/-- An operand outside its domain raises DOMAIN_VIOLATION and has no other effect (R306, R703). -/
theorem exec_of_not_inDomain {i : Instr} (h : i.inDomain = false) (s : State) :
    exec i s = .next (s.raise .domainViolation) := by
  cases i with
  | setmode m => exact setField_outcome_of_isSome_eq_false ((Mode.isSome_ofCode? m).trans h) _ s
  | settemp t => exact setField_outcome_of_isSome_eq_false ((Temp.isSome_ofCode? t).trans h) _ s
  | setfan f => exact setField_outcome_of_isSome_eq_false ((Fan.isSome_ofCode? f).trans h) _ s
  | setdir d => exact setField_outcome_of_isSome_eq_false ((Dir.isSome_ofCode? d).trans h) _ s
  | setpwr _ | encode | convert | synth | transmit | send => cases h

/-- With segments to send TRANSMIT leaves ERR, whatever the engine answers (R603, R709). -/
theorem transmitStep_err_of_segments {s : State} {l : List Segment} (hl : s.seg = some l) :
    s.transmitStep.state.status.err = s.status.err := by
  rcases transmitStep_state s with ⟨hnone, -⟩ | ⟨_, -, -, h⟩ | ⟨_, -, -, h⟩
  · simp [hl] at hnone
  · simp [h]
  · simp [h]

/-- The only code SEND writes is CAPACITY (R609, R610): its first three steps make the buffers the later ones need. -/
theorem exec_send_err {s : State} (hsafe : s.status.fault = false) :
    ∃ t, exec .send s = .next t ∧ (t.status.err = s.status.err ∨ t.status.err = .capacity) := by
  obtain hover | hfits := Nat.lt_or_ge s.params.segCap (segments s.trainNow).length
  · exact ⟨_, exec_send_of_over hover, .inr (State.raise_err_of_safe (s := s.withTrain) .capacity hsafe)⟩
  · exact ⟨_, exec_send_of_fits hfits, .inl (transmitStep_err_of_segments rfl)⟩

/-- The only codes that a command with its operand in domain writes are NOT_READY and CAPACITY (R706, R708). -/
theorem exec_err_of_inDomain {i : Instr} {s t : State} (hdom : i.inDomain = true) (hsafe : s.status.fault = false)
    (ht : exec i s = .next t) :
    t.status.err = s.status.err ∨ t.status.err = .notReady ∨ t.status.err = .capacity := by
  cases i with
  | setpwr _ => cases ht; exact .inl rfl
  | setmode m => cases ht; exact .inl (setField_err_of_isSome ((Mode.isSome_ofCode? m).trans hdom) _ s)
  | settemp x => cases ht; exact .inl (setField_err_of_isSome ((Temp.isSome_ofCode? x).trans hdom) _ s)
  | setfan f => cases ht; exact .inl (setField_err_of_isSome ((Fan.isSome_ofCode? f).trans hdom) _ s)
  | setdir d => cases ht; exact .inl (setField_err_of_isSome ((Dir.isSome_ofCode? d).trans hdom) _ s)
  | encode => cases ht; exact .inl rfl
  | convert =>
    cases ht
    rcases convertStep_state s with ⟨-, h⟩ | ⟨_, -, h⟩ <;> rw [h]
    · exact .inr (.inl (State.raise_err_of_safe .notReady hsafe))
    · exact .inl rfl
  | synth =>
    cases ht
    rcases synthStep_state s with ⟨-, h⟩ | ⟨_, -, -, h⟩ | ⟨_, -, -, h⟩ <;> rw [h]
    · exact .inr (.inl (State.raise_err_of_safe .notReady hsafe))
    · exact .inr (.inr (State.raise_err_of_safe .capacity hsafe))
    · exact .inl rfl
  | transmit =>
    cases ht
    rcases transmitStep_state s with ⟨-, h⟩ | ⟨_, -, -, h⟩ | ⟨_, -, -, h⟩ <;> rw [h]
    · exact .inr (.inl (State.raise_err_of_safe .notReady hsafe))
    · exact .inl rfl
    · exact .inl rfl
  | send =>
    obtain ⟨u, hu, herr⟩ := exec_send_err hsafe
    obtain rfl : u = t := by simpa [hu] using ht
    exact herr.imp_right .inr

/-- Settles O18: outside its domain the operand raises the fault, and within it no command writes that code. -/
theorem domainViolationExactlyOutsideTheDomain : Obligations.DomainViolationExactlyOutsideTheDomain := by
  intro i s hsafe hnone
  cases hdom : i.inDomain with
  | false =>
    exact ⟨_, exec_of_not_inDomain hdom s, iff_of_true (State.raise_err_of_safe _ hsafe) rfl, fun _ => State.raise_st _ s⟩
  | true =>
    obtain ⟨t, ht, -⟩ := exec_eq_next_params i s
    refine ⟨t, ht, iff_of_false ?_ nofun, nofun⟩
    rcases exec_err_of_inDomain hdom hsafe ht with herr | herr | herr <;> simp [herr, hnone]

theorem exec_transmit_of_no_segments {s : State} (hl : s.seg = none) : exec .transmit s = .next (s.raise .notReady) := by
  change s.transmitStep.outcome = _
  rw [State.transmitStep, hl]
  rfl

/-- Settles O32: each of the three stages takes the fault, and SEND writes no other code than CAPACITY. -/
theorem stageWithoutItsBufferIsNotReady : Obligations.StageWithoutItsBufferIsNotReady := by
  refine fun i s hsafe => ⟨fun hmissing => ?_, fun hnone => ?_⟩
  · rw [← State.raise_of_safe .notReady hsafe]
    rcases hmissing with ⟨rfl, hf⟩ | ⟨rfl, hp⟩ | ⟨rfl, hl⟩
    · exact exec_convert_of_no_frame hf
    · exact exec_synth_of_no_train hp
    · exact exec_transmit_of_no_segments hl
  · obtain ⟨t, ht, herr⟩ := exec_send_err hsafe
    exact ⟨t, ht, by rcases herr with herr | herr <;> simp [herr, hnone]⟩

end Sys2Proof.Machine
end

section
/-! The line from the engine's acceptance on (R560, R726): how far each move of the engine shows the waveform. -/

namespace Sys2Proof.Machine

theorem Engine.shown_of_emission {g : Engine} {e : Emission} (h : g.emission = some e) : g.shown = e.shown := by
  rw [Engine.shown, h]

/-- Within what was shown the line had the waveform's level (R560, R726). -/
theorem Emission.level_of_lt {e : Emission} {τ : Nat} (h : τ < e.shown) : e.level τ = lineLevel e.segs τ := if_pos h

/-- Settles O60: the request in flight is SEG's on the output line, and the engine's move shows as much of it as the move
reaches. -/
theorem lineShowsAGrowingPrefixWhileBusy : Obligations.LineShowsAGrowingPrefixWhileBusy := by
  refine ⟨fun s l hl ha => ⟨_, exec_transmit_of_accept hl ha, rfl⟩, fun s hcoherent hbusy => ?_⟩
  obtain ⟨-, -, l, hseg, hhandles, n, hn, hemission⟩ := hcoherent.inFlight hbusy
  have hnext : s.engineMove.engine.emission = some ⟨s.params.outputLine, l, moveReach s.engine.move n l⟩ := by
    rw [engineMove_emission, hhandles, Engine.shown_of_emission hemission, Option.map_some]
  have hgrows : n ≤ moveReach s.engine.move n l := le_moveReach _ n l hn
  refine ⟨_, _, _, step_of_busy hbusy, hemission, hnext, rfl, hseg, hgrows, moveReach_le _ n l,
    State.shownLevel_of_emission hnext, fun τ hτ => ?_, fun us hmove => ?_, fun hmove => ?_⟩
  · rw [State.shownLevel_of_emission hnext, State.shownLevel_of_emission hemission,
      Emission.level_of_lt (hτ.trans_le hgrows), Emission.level_of_lt hτ]
  · rw [hmove]
    rfl
  · rw [hmove]
    rfl

end Sys2Proof.Machine
end

section
/-! Words that are not performed (R704, R711): an illegal one, and any one that a faulted block accepts. -/

namespace Sys2Proof.Machine

/-- A block without a fault takes ILLEGAL_COMMAND on a word that spells no command (R704). -/
theorem acceptWord_of_illegal {w : Word} {s : State} {why : Illegal} (hsafe : s.status.fault = false)
    (hw : decode w = .illegal why) : acceptWord w s = .next (s.raise .illegalCommand) := by
  simp [acceptWord, hsafe, hw]

/-- Settles O6: the word is accepted, and as there is no fault its own is the first. -/
theorem illegalWordRaisesIllegalCommand : Obligations.IllegalWordRaisesIllegalCommand := by
  intro s w rest why hidle hsafe hhost hw
  have hsafe' : { s with host := rest }.status.fault = false := hsafe
  rw [step_of_word hidle hhost, acceptWord_of_illegal hsafe' hw, State.raise_of_safe _ hsafe']

/-- A faulted block ignores a word (R711). -/
theorem acceptWord_of_fault (w : Word) {s : State} (hfault : s.status.fault = true) : acceptWord w s = .next s := by
  simp [acceptWord, hfault]

/-- A run goes on from where its first step leads. -/
theorem core_run_succ {s t : State} (ht : step s = .next t) (k : Nat) : core.run (k + 1) s = core.run k t := by
  have hcore : core.step s = .next t := ht
  simp only [Host.Core.run, hcore]

/-- A faulted block takes any number of words from the host and does nothing else (R711). -/
theorem core_run_words_of_fault (ws : List Word) {s : State} {rest : List HostMove} (hidle : s.status.busy = false)
    (hfault : s.status.fault = true) (hhost : s.host = ws.map .word ++ rest) :
    core.run ws.length s = .next { s with host := rest } := by
  induction ws generalizing s with
  | nil =>
    obtain rfl : s.host = rest := hhost
    rfl
  | cons w ws ih =>
    have hstep : step s = .next { s with host := ws.map .word ++ rest } :=
      (step_of_word hidle hhost).trans (acceptWord_of_fault w hfault)
    exact (core_run_succ hstep ws.length).trans (ih hidle hfault rfl)

/-- Settles O7: the words are ignored one by one, and but for reset the first fault stays. -/
theorem faultedBlockIgnoresEveryWord : Obligations.FaultedBlockIgnoresEveryWord := by
  refine fun s ws rest hidle hfault hhost => ⟨core_run_words_of_fault ws hidle hfault hhost, fun t ht hsafe => ?_⟩
  by_contra hnoReset
  obtain ⟨hfault', -⟩ := firstFaultStaysUntilReset s t hfault ht (.inr hnoReset)
  simp [hsafe] at hfault'

end Sys2Proof.Machine
end

section
/-! When there is a step at all (R701, R718). -/

namespace Sys2Proof.Machine

/-- Settles O12: the engine's move, an accepted word and reset each answer a next state. -/
theorem stepMovesUnlessNobodyHasAMove : Obligations.StepMovesUnlessNobodyHasAMove := by
  intro s
  rcases step_cases s with ⟨hbusy, h⟩ | ⟨-, w, rest, hhost, h⟩ | ⟨-, rest, hhost, h⟩ | ⟨hidle, hhost, h⟩
  · exact ⟨iff_of_true ⟨_, h⟩ (.inl hbusy), fun hidle => by simp [hbusy] at hidle⟩
  · obtain ⟨t, ht, -⟩ := acceptWord_eq_next_params w { s with host := rest }
    exact ⟨iff_of_true ⟨t, h.trans ht⟩ (.inr (by simp [hhost])), fun _ hnone => by simp [hhost] at hnone⟩
  · exact ⟨iff_of_true ⟨_, h⟩ (.inr (by simp [hhost])), fun _ hnone => by simp [hhost] at hnone⟩
  · exact ⟨iff_of_false (by simp [h]) (by simp [hidle, hhost]), fun _ _ => h⟩

end Sys2Proof.Machine
end

section
/-! Reset, which the host may assert while BUSY = 0 (R801). -/

namespace Sys2Proof.Machine

/-- An idle block takes the host's reset, which is then taken from the host's moves (R801). -/
theorem step_of_reset {s : State} {rest : List HostMove} (hidle : s.status.busy = false)
    (hhost : s.host = .reset :: rest) : step s = .next (State.assertReset { s with host := rest }) := by
  simp only [step, State.nextMove, hidle, hhost]

/-- Settles O9: the step is the assertion of reset, which writes each of these fields and keeps the parameters. -/
theorem resetMoveLeavesTheResetState : Obligations.ResetMoveLeavesTheResetState :=
  fun _ _ hidle hhost =>
    ⟨_, step_of_reset hidle hhost, rfl, rfl, rfl, rfl, rfl, rfl, rfl, rfl, rfl, rfl, rfl, rfl, rfl, rfl⟩

end Sys2Proof.Machine
end
